-- ==== Sys2Proof/Word.lean ====
section
/-! DEFINITION. The word types of RBFIFO: the stored byte, and the request and response words. -/

namespace Sys2Proof

/-- One stored byte: `DW = 8` bits, bit 7 the most significant (00_scope.md R8, 20_memory.md R53). -/
abbrev Byte := BitVec 8

/-- The request word `{init, pop_valid, push_valid, push_data[7:0]}` (30_encoding.md R74). -/
abbrev RequestWord := BitVec 11

/-- The response word `{push_ok, pop_ok, ovf_event, pop_data[7:0]}` (30_encoding.md R78). -/
abbrev ResponseWord := BitVec 11

end Sys2Proof
end

