-- ==== Sys2Proof/Syntax.lean ====
section
/-! DEFINITION. The operations of RBFIFO, one constructor per row of spec/opcode_table.json. -/

namespace Sys2Proof

/-- One operation (00_scope.md R14, 30_encoding.md R70). A request word is a bundle of up to three of
the request operations (R76); `push` carries the one operand the block has, the byte (R75). -/
inductive Instr where
  /-- Nothing is requested (40_init_nop.md R91). -/
  | nop
  /-- Reset the control state (40_init_nop.md R90). -/
  | init
  /-- Remove and return the oldest byte (43_pop.md R120). -/
  | pop
  /-- Offer one byte (42_push.md R105). -/
  | push (b : Byte)
  /-- Query, port `empty` (41_queries.md R96). -/
  | isEmpty
  /-- Query, port `full` (41_queries.md R97). -/
  | isFull
  /-- Query, port `level` (41_queries.md R98). -/
  | level
  /-- Query, port `capacity` (41_queries.md R101). -/
  | capacity
  /-- Query, ports `level`, `ovf_count`, `hwm_active`, `util_pct` (44_status.md R130). -/
  | status
deriving DecidableEq, Repr

/-- The operations of one cycle, in the order they are performed (30_encoding.md R76, R81). -/
abbrev Line := List Instr

end Sys2Proof
end

