-- ==== Sys2Proof/WellFormed.lean ====
section
/-! DEFINITION. Which lists of operations one request word can ask for (30_encoding.md R76, R77, R81).
Every operand value is legal (R75, R79), so an operation by itself has nothing to check. -/

namespace Sys2Proof

/-- Is the operation asked for on the request ports? Queries are not (30_encoding.md R70, R77). -/
def Instr.isRequest : Instr → Bool
  | .nop => true
  | .init => true
  | .pop => true
  | .push _ => true
  | .isEmpty => false
  | .isFull => false
  | .level => false
  | .capacity => false
  | .status => false

/-- The slot of a request word an operation is asked for in, numbered in the order of execution
(45_cycle.md R142): INIT, then POP, then PUSH. -/
def Instr.slot : Instr → Option Nat
  | .nop => none
  | .init => some 0
  | .pop => some 1
  | .push _ => some 2
  | .isEmpty => none
  | .isFull => none
  | .level => none
  | .capacity => none
  | .status => none

/-- Each operation has a slot of its own, after the slot of the one before it. -/
def Line.ordered : Line → Bool
  | [] => true
  | [i] => i.slot.isSome
  | i :: j :: rest =>
    (match i.slot, j.slot with
      | some a, some b => decide (a < b)
      | _, _ => false) && Line.ordered (j :: rest)

/-- A line of 30_encoding.md R81: NOP alone, or one to three of INIT, POP, PUSH in execution order. -/
def Line.wellFormed (l : Line) : Bool :=
  l == [.nop] || (!l.isEmpty && Line.ordered l)

end Sys2Proof
end

