-- ==== Sys2Proof/Decode.lean ====
section
/-! DEFINITION. The request word: its fields, the decoder, the encoder and the text form
(30_encoding.md R74 to R81). -/

namespace Sys2Proof

/-- `REQ[10]` (30_encoding.md R74). -/
def reqInit (q : RequestWord) : Bool := q.getLsbD 10

/-- `REQ[9]` (30_encoding.md R74). -/
def reqPop (q : RequestWord) : Bool := q.getLsbD 9

/-- `REQ[8]` (30_encoding.md R74). -/
def reqPush (q : RequestWord) : Bool := q.getLsbD 8

/-- `REQ[7:0]`, the byte operand: unsigned, no extension, no scaling (30_encoding.md R75). -/
def reqData (q : RequestWord) : Byte := q.extractLsb' 0 8

/-- A row of opcode_table.json of format `REQ`: a request word asks for the operation exactly when its
masked bits are the row's pattern (30_encoding.md R76). -/
structure RequestRow where
  mask : RequestWord
  pattern : RequestWord
  op : Byte → Instr

/-- The four rows of format `REQ`, in the order the operations of a cycle are performed. -/
def requestRows : List RequestRow :=
  [ ⟨0x400#11, 0x400#11, fun _ => .init⟩,
    ⟨0x200#11, 0x200#11, fun _ => .pop⟩,
    ⟨0x100#11, 0x100#11, fun b => .push b⟩,
    ⟨0x700#11, 0x000#11, fun _ => .nop⟩ ]

/-- Does the word ask for the row's operation? -/
def RequestRow.fits (row : RequestRow) (q : RequestWord) : Bool :=
  (q &&& row.mask) == row.pattern

/-- The operations a request word asks for, in the order they are performed. Total: every one of the
`2^11` words is legal (30_encoding.md R76, R79). -/
def decode (q : RequestWord) : Line :=
  (requestRows.filter (fun row => row.fits q)).map (fun row => row.op (reqData q))

/-- Why a number is not a request word. -/
inductive DecodeError where
  /-- It has a bit above bit 10; a request word has 11 bits and there is no other length
  (30_encoding.md R80). -/
  | widerThanRequestWord
deriving DecidableEq, Repr

/-- A number as a request word. -/
def toRequestWord (w : Nat) : Except DecodeError RequestWord :=
  if w < 2 ^ 11 then .ok (BitVec.ofNat 11 w) else .error .widerThanRequestWord

/-- The canonical request word of one operation; ignored bits are 0 (30_encoding.md R75). A query has no
request bit, so the word that asks for nothing stands for it (R77). -/
def encode : Instr → RequestWord
  | .nop => 0x000#11
  | .init => 0x400#11
  | .pop => 0x200#11
  | .push b => 0x100#11 ||| b.setWidth 11
  | .isEmpty => 0x000#11
  | .isFull => 0x000#11
  | .level => 0x000#11
  | .capacity => 0x000#11
  | .status => 0x000#11

/-- The canonical request word of a line: the slots are independent, so its operations' words joined. -/
def encodeLine : Line → RequestWord
  | [] => 0x000#11
  | i :: rest => encode i ||| encodeLine rest

/-- The instruction the decoder reads from the low `nbits` bits of `w`: the FIRST operation performed,
where the word bundles several (log 9). -/
def decodeTableWord (nbits w : Nat) : Option Instr :=
  match toRequestWord (w % 2 ^ nbits) with
  | .ok q => (decode q).head?
  | .error _ => none

/-- One hexadecimal digit, upper case, as the spec's own lines write it (`0x4A`; log 14). -/
def hexDigit (n : Nat) : Char :=
  if n < 10 then Char.ofNat (48 + n) else Char.ofNat (55 + n)

/-- `0x00` to `0xFF` (30_encoding.md R81). -/
def byteText (b : Byte) : String :=
  "0x" ++ String.ofList [hexDigit (b.toNat / 16), hexDigit (b.toNat % 16)]

/-- The mnemonic of an operation, with the operand of PUSH (30_encoding.md R81). -/
def opText : Instr → String
  | .nop => "NOP"
  | .init => "INIT"
  | .pop => "POP"
  | .push b => "PUSH " ++ byteText b
  | .isEmpty => "IS_EMPTY"
  | .isFull => "IS_FULL"
  | .level => "LEVEL"
  | .capacity => "CAPACITY"
  | .status => "STATUS"

/-- One line of text per cycle, operations separated by ` | ` in execution order (30_encoding.md R81). -/
def lineText : Line → String
  | [] => ""
  | [i] => opText i
  | i :: rest => opText i ++ " | " ++ lineText rest

end Sys2Proof
end

