-- ==== Sys2Proof/Config.lean ====
section
/-! DEFINITION. What is fixed when the block is built (00_scope.md R8, R9; 10_state.md R34), and the
free values the spec leaves open (93_implementation_defined.md U1, U3). -/

namespace Sys2Proof

/-- The overflow policy, exactly one per build (00_scope.md R8). -/
inductive Policy where
  | dropNewest
  | overwriteOldest
deriving DecidableEq, Repr

/-- The one-bit coding of `POLICY` (10_state.md R34). -/
def Policy.code : Policy → BitVec 1
  | .dropNewest => 0
  | .overwriteOldest => 1

/-- The raw parameters someone asks a block to be built with; nothing is checked yet. -/
structure Params where
  /-- `N`, the number of storage slots. -/
  n : Nat
  /-- `HIGH`, the high-watermark threshold. -/
  high : Nat
  /-- `LOW`, the low-watermark threshold. -/
  low : Nat
  /-- `POLICY`; `DROP_NEWEST` is the source's default. -/
  policy : Policy := .dropNewest
  /-- `CW`, the width of the overflow counter in bits. -/
  cw : Nat
deriving DecidableEq, Repr

/-- `N != 0 and (N & (N - 1)) == 0` (00_scope.md R9). -/
def Params.powerOfTwo (p : Params) : Bool :=
  p.n != 0 && (p.n &&& (p.n - 1)) == 0

/-- Every constraint of 00_scope.md R8, as R9 lists them (`0 <= LOW` and the two-valued policy hold by
their types). -/
def Params.wellFormed (p : Params) : Bool :=
  p.powerOfTwo && decide (2 ≤ p.n) && decide (p.low < p.high) && decide (p.high ≤ p.n) &&
    decide (1 ≤ p.cw)

/-- A configuration a block exists for. An ill-formed one has no value of this type: "no block exists
for it" (00_scope.md R9, log 8). -/
structure Config extends Params where
  ok : toParams.wellFormed = true
deriving DecidableEq, Repr

/-- `AW = log2 N`, the width of a cursor (00_scope.md R8). -/
def Config.aw (c : Config) : Nat := Nat.log2 c.n

/-- `MASK = N - 1` (00_scope.md R8). -/
def Config.mask (c : Config) : Nat := c.n - 1

/-- Usable capacity: the most bytes the block can hold (00_scope.md R11). -/
def Config.usable (c : Config) : Nat := c.n - 1

/-- The largest value of the `CW`-bit overflow counter (10_state.md R27). -/
def Config.ovfMax (c : Config) : Nat := 2 ^ c.cw - 1

/-- `unspecified_8`: what stands on `pop_data` in cycle `t` when `pop_ok = 0`. A free value, no number is
chosen (43_pop.md R124, U1, log 3). -/
opaque Config.unspecified8 : Nat → Byte

/-- What a slot that nothing has written since power-on holds. A free value per slot (10_state.md R39,
U3, log 4). -/
opaque Config.powerOnByte : Nat → Byte

end Sys2Proof
end

