-- ==== Sys2Proof/Machine/State.lean ====
section
/-! DEFINITION. The state of the block (10_state.md R20), its ports, the reasons a step can stop, and
the state after reset. -/

namespace Sys2Proof.Machine

/-- The storage `mem`: (slot, byte) pairs in rising order of slots. A slot that is not listed has not
been written since power-on (20_memory.md R50, 10_state.md R37, log 4). -/
abbrev Memory := List Host.Cell

/-- The response ports of one cycle (30_encoding.md R73). -/
structure Response where
  pushOk : Bool
  popOk : Bool
  ovfEvent : Bool
  popData : Byte
deriving DecidableEq, Repr

/-- The status ports of one cycle (30_encoding.md R73, 10_state.md R34). -/
structure Status where
  empty : Bool
  full : Bool
  level : Nat
  ovfCount : Nat
  hwmActive : Bool
  utilPct : Nat
  capacity : Nat
deriving DecidableEq, Repr

/-- The block and its ports. `mem`, `w`, `r`, `ovf` and `hwm` are the five fields of 10_state.md R20;
`cfg` is the configuration (00_scope.md R8, log 1); the rest are the model's own: what drives the request
ports in the cycles to come (log 5), what the response and status ports showed in the last cycle (log 6),
and the index of the cycle (log 7). -/
structure State where
  /-- The build-time constants; no step changes them. -/
  cfg : Config
  /-- Write cursor: the next slot to write (10_state.md R24). -/
  w : Nat
  /-- Read cursor: the next slot to read (10_state.md R25). -/
  r : Nat
  /-- Overflow counter (10_state.md R27). -/
  ovf : Nat
  /-- Watermark flag (10_state.md R28). -/
  hwm : Bool
  /-- Storage (10_state.md R26). -/
  mem : Memory
  /-- The request words of the cycles to come, the next one first. -/
  reqs : List RequestWord
  /-- The response ports of the last cycle. -/
  rsp : Response
  /-- The status ports of the last cycle. -/
  stat : Status
  /-- How many cycles have been performed (30_encoding.md R71). -/
  t : Nat
deriving DecidableEq, Repr

/-- Reasons a step can fault. There is none: "No operation raises an exception, traps, aborts, stalls or
hangs" (60_exceptions.md R160), so the type has no constructor (log 12). -/
inductive Fault where
deriving DecidableEq, Repr

/-- Reasons a step can be refused. -/
inductive Refusal where
  /-- Raised by an arm of exec whose instruction has no meaning yet. Safe: the run stops. No arm raises
  it: every operation is modelled. -/
  | notModelled (mnemonic : String)
deriving DecidableEq, Repr

/-- The outcome of an operation or a cycle. -/
abbrev Outcome := Host.Outcome State Fault Refusal

/-- The state INIT leaves in a block of configuration `c` whose storage was never written (10_state.md
R39). The status ports show the values 10_state.md R34 gives after INIT; the response ports are those of
an idle cycle, `pop_data` a free value (log 3, log 6). -/
def State.resetOf (c : Config) : State where
  cfg := c
  w := 0
  r := 0
  ovf := 0
  hwm := false
  mem := []
  reqs := []
  rsp := { pushOk := false, popOk := false, ovfEvent := false, popData := Config.unspecified8 0 }
  stat := { empty := true, full := false, level := 0, ovfCount := 0, hwmActive := false,
            utilPct := 0, capacity := c.n }
  t := 0

/-- The configuration of State.reset. DESIGN CHOICE (log 1): the spec leaves the parameters open; these
are the numbers of the source's capacity-8 scenario, with the default policy. -/
def resetConfig : Config where
  n := 8
  high := 6
  low := 2
  policy := .dropNewest
  cw := 16
  ok := rfl

/-- The machine right after reset, that is after INIT (70_reset_and_hazards.md R185, log 2). -/
def State.reset : State := State.resetOf resetConfig

end Sys2Proof.Machine
end

