-- ==== Sys2Proof/Machine/Ops.lean ====
section
/-! DEFINITION. The named operations over storage, cursors and ports (00_scope.md R13). -/

namespace Sys2Proof.Machine

/-- The byte listed for slot `a`, if one is. -/
def Memory.read? : Memory → Nat → Option Byte
  | [], _ => none
  | (k, b) :: rest, a => if a = k then some b else Memory.read? rest a

/-- Store `v` at slot `a`, keeping the slots in rising order. -/
def Memory.write : Memory → Nat → Byte → Memory
  | [], a, v => [(a, v)]
  | (k, b) :: rest, a, v =>
    if a < k then (a, v) :: (k, b) :: rest
    else if a = k then (a, v) :: rest
    else (k, b) :: Memory.write rest a v

/-- The canonical form: slots strictly rising. No listed entry can equal what an unlisted slot reads as,
since that is no listed byte at all (log 4). -/
abbrev Memory.wf (m : Memory) : Prop := m.Pairwise (fun x y => x.1 < y.1)

/-- `(c + 1) & MASK`, the cursor advance (00_scope.md R13, 10_state.md R23). -/
def advance (c : Config) (x : Nat) : Nat := (x + 1) &&& c.mask

/-- `(a - b) & MASK`, subtraction modulo `N` (00_scope.md R13): `N` is added before the subtraction, so
that it does not stop at 0. -/
def distance (c : Config) (a b : Nat) : Nat := (a + c.n - b) &&& c.mask

/-- `sat_CW(v) = min(v, 2^CW - 1)` (00_scope.md R13). -/
def saturate (c : Config) (v : Nat) : Nat := min v c.ovfMax

/-- An offset into storage, "always taken modulo capacity via bitmasking" (10_state.md R23, 20_memory.md
R54). On a cursor value it changes nothing (10_state.md R21, log 10). -/
def slotOf (c : Config) (x : Nat) : Nat := x &&& c.mask

/-- `MemRead(a, 1)` (00_scope.md R13): the byte in slot `a`; in a slot never written, a free value. -/
def State.memRead (s : State) (a : Nat) : Byte :=
  (Memory.read? s.mem (slotOf s.cfg a)).getD (Config.powerOnByte (slotOf s.cfg a))

/-- `MemWrite(a, 1, v)` (00_scope.md R13). -/
def State.memWrite (s : State) (a : Nat) (v : Byte) : State :=
  { s with mem := Memory.write s.mem (slotOf s.cfg a) v }

/-- No request, no response: `push_ok = pop_ok = ovf_event = 0`, and `pop_data` is the free value of the
cycle (45_cycle.md R140, 43_pop.md R120, log 3). -/
def State.idleResponse (s : State) : State :=
  { s with rsp := { pushOk := false, popOk := false, ovfEvent := false,
                    popData := Config.unspecified8 s.t } }

/-- Drive the two response ports of a PUSH (42_push.md R105). -/
def State.respondPush (s : State) (ok ev : Bool) : State :=
  { s with rsp := { s.rsp with pushOk := ok, ovfEvent := ev } }

/-- Drive the two response ports of a POP (43_pop.md R120). -/
def State.respondPop (s : State) (ok : Bool) (d : Byte) : State :=
  { s with rsp := { s.rsp with popOk := ok, popData := d } }

/-- The response word `{push_ok, pop_ok, ovf_event, pop_data}` (30_encoding.md R78). -/
def Response.word (p : Response) : ResponseWord :=
  BitVec.ofBool p.pushOk ++ BitVec.ofBool p.popOk ++ BitVec.ofBool p.ovfEvent ++ p.popData

end Sys2Proof.Machine
end

