-- ==== Sys2Proof/Machine/Operands.lean ====
section
/-! DEFINITION. The one way an operation reaches storage: at a cursor, which then advances by one
(10_state.md R23, 20_memory.md R51). -/

namespace Sys2Proof.Machine

/-- The byte at the read cursor (43_pop.md R121). -/
def State.oldest (s : State) : Byte := s.memRead s.r

/-- `r <- (r + 1) & MASK` (43_pop.md R121, 42_push.md R109). -/
def State.advanceR (s : State) : State := { s with r := advance s.cfg s.r }

/-- `w <- (w + 1) & MASK` (42_push.md R107). -/
def State.advanceW (s : State) : State := { s with w := advance s.cfg s.w }

/-- The slot a storing PUSH writes (42_push.md R107, R109). -/
def State.storeSlot (s : State) : Nat := slotOf s.cfg s.w

/-- `mem[w] <- b`, then `w <- (w + 1) & MASK` (42_push.md R107, R109). -/
def State.storeByte (s : State) (b : Byte) : State := (s.memWrite s.w b).advanceW

end Sys2Proof.Machine
end

