-- ==== Sys2Proof/Machine/Flags.lean ====
section
/-! DEFINITION. The derived values and the flag and counter updates (10_state.md R27 to R33). -/

namespace Sys2Proof.Machine

/-- `level(s) = (w - r) & MASK` (10_state.md R29). -/
def State.fill (s : State) : Nat := distance s.cfg s.w s.r

/-- `empty(s) = (w == r)` (10_state.md R30). -/
def State.isEmpty (s : State) : Bool := s.w == s.r

/-- `full(s) = (((w + 1) & MASK) == r)` (10_state.md R30). -/
def State.isFull (s : State) : Bool := advance s.cfg s.w == s.r

/-- `util(s) = floor(level * 100 / N)`, the product formed whole (10_state.md R32, 44_status.md R133). -/
def State.util (s : State) : Nat := s.fill * 100 / s.cfg.n

/-- `ovf <- sat_CW(ovf + 1)` (42_push.md R111). -/
def State.countOverflow (s : State) : State := { s with ovf := saturate s.cfg (s.ovf + 1) }

/-- After a plain store: set `hwm` when it is clear and the new level is at least `HIGH`
(42_push.md R108). -/
def State.raiseHwm (s : State) : State :=
  if s.hwm = false ∧ s.cfg.high ≤ s.fill then { s with hwm := true } else s

/-- After a successful POP: clear `hwm` when it is set and the new level is at most `LOW`
(43_pop.md R122). -/
def State.lowerHwm (s : State) : State :=
  if s.hwm = true ∧ s.fill ≤ s.cfg.low then { s with hwm := false } else s

end Sys2Proof.Machine
end

