-- ==== Sys2Proof/Machine/InitNop.lean ====
section
/-! DEFINITION. INIT and NOP (40_init_nop.md). -/

namespace Sys2Proof.Machine

/-- INIT (40_init_nop.md R90): `w`, `r`, `ovf` and `hwm` become 0; no slot is written; INIT has no
response port. -/
def execInit (s : State) : Outcome :=
  .next { s with w := 0, r := 0, ovf := 0, hwm := false }

/-- NOP (40_init_nop.md R91): no field is written; nothing is answered. -/
def execNop (s : State) : Outcome := .next s.idleResponse

end Sys2Proof.Machine
end

