-- ==== Sys2Proof/Machine/Pop.lean ====
section
/-! DEFINITION. POP (43_pop.md). -/

namespace Sys2Proof.Machine

/-- POP (43_pop.md R120 to R123): on an empty buffer `pop_ok = 0`, `pop_data` is the free value of the
cycle and nothing else changes; otherwise the byte at `r` is returned, `r` advances, and the watermark is
looked at. -/
def execPop (s : State) : Outcome :=
  if s.isEmpty then .next (s.respondPop false (Config.unspecified8 s.t))
  else .next (s.advanceR.lowerHwm.respondPop true s.oldest)

end Sys2Proof.Machine
end

