-- ==== Sys2Proof/Machine/Push.lean ====
section
/-! DEFINITION. PUSH (42_push.md). -/

namespace Sys2Proof.Machine

/-- PUSH (42_push.md R105): the full test first (R106); on a full buffer the overflow is counted (R111)
and the policy decides: drop the byte (R110), or displace the oldest and store at `w` without looking at
the watermark (R109); with room, store and look at the watermark (R107, R108). -/
def execPush (b : Byte) (s : State) : Outcome :=
  if s.isFull then
    match s.cfg.policy with
    | .dropNewest => .next (s.countOverflow.respondPush false true)
    | .overwriteOldest => .next ((s.countOverflow.advanceR.storeByte b).respondPush true true)
  else .next ((s.storeByte b).raiseHwm.respondPush true false)

end Sys2Proof.Machine
end

