-- ==== Sys2Proof/Machine/Queries.lean ====
section
/-! DEFINITION. The queries IS_EMPTY, IS_FULL, LEVEL, CAPACITY (41_queries.md) and STATUS (44_status.md).
A query writes no state; it drives its ports (41_queries.md R95). -/

namespace Sys2Proof.Machine

/-- IS_EMPTY (41_queries.md R96), port `empty`. -/
def execIsEmpty (s : State) : Outcome :=
  .next { s with stat := { s.stat with empty := s.isEmpty } }

/-- IS_FULL (41_queries.md R97), port `full`. -/
def execIsFull (s : State) : Outcome :=
  .next { s with stat := { s.stat with full := s.isFull } }

/-- LEVEL (41_queries.md R98), port `level`. -/
def execLevel (s : State) : Outcome :=
  .next { s with stat := { s.stat with level := s.fill } }

/-- CAPACITY (41_queries.md R101), port `capacity`: `N`, not `N - 1`. -/
def execCapacity (s : State) : Outcome :=
  .next { s with stat := { s.stat with capacity := s.cfg.n } }

/-- STATUS (44_status.md R130): the snapshot of four values, all of one state (R131). -/
def execStatus (s : State) : Outcome :=
  .next { s with stat := { s.stat with level := s.fill, ovfCount := s.ovf, hwmActive := s.hwm,
                                       utilPct := s.util } }

end Sys2Proof.Machine
end

