-- ==== Sys2Proof/Machine/Dispatch.lean ====
section
/-! DEFINITION. The meaning of each operation: one arm per constructor. -/

namespace Sys2Proof.Machine

/-- What one operation does to the state it acts on. -/
def exec (i : Instr) (s : State) : Host.Outcome State Fault Refusal :=
  match i with
  | .nop => Sys2Proof.Machine.execNop s
  | .init => Sys2Proof.Machine.execInit s
  | .pop => Sys2Proof.Machine.execPop s
  | .push b => Sys2Proof.Machine.execPush b s
  | .isEmpty => Sys2Proof.Machine.execIsEmpty s
  | .isFull => Sys2Proof.Machine.execIsFull s
  | .level => Sys2Proof.Machine.execLevel s
  | .capacity => Sys2Proof.Machine.execCapacity s
  | .status => Sys2Proof.Machine.execStatus s

end Sys2Proof.Machine
end

