-- ==== Sys2Proof/Machine/Cycle.lean ====
section
/-! DEFINITION. One clock cycle (45_cycle.md R140 to R142): the request ports are sampled, the status
ports show the start-of-cycle state, and the requested operations are performed in order. -/

namespace Sys2Proof.Machine

/-- The request word on the ports in the coming cycle; when the environment has nothing more to ask, the
ports are idle (log 5). -/
def State.request (s : State) : RequestWord := s.reqs.head?.getD (encode .nop)

/-- Put `q` on the request ports of the coming cycle, before whatever was to come. -/
def State.withRequest (s : State) (q : RequestWord) : State := { s with reqs := q :: s.reqs }

/-- A cycle begins: its request word is taken, its index is the next one, and no response is driven
yet. -/
def State.beginCycle (s : State) : State :=
  ({ s with reqs := s.reqs.tail, t := s.t + 1 } : State).idleResponse

/-- The queries are answered in every cycle, whatever is requested (30_encoding.md R77), and before any
request acts, so that they show the start-of-cycle state (41_queries.md R95, 44_status.md R131). -/
def queryLine : Line := [.isEmpty, .isFull, .level, .capacity, .status]

/-- Perform operations one after another, each on the state the one before left (45_cycle.md R142). -/
def runLine : Line → State → Outcome
  | [], s => .next s
  | i :: rest, s =>
    match exec i s with
    | .next s' => runLine rest s'
    | .fault f => .fault f
    | .refused f => .refused f

/-- One cycle (45_cycle.md R140). -/
def performCycle (s : State) : Outcome :=
  runLine (queryLine ++ decode s.request) s.beginCycle

/-- The low `nbits` bits of `w` on the eleven request wires (30_encoding.md R74). -/
def requestFrom (nbits w : Nat) : RequestWord := BitVec.ofNat 11 (w % 2 ^ nbits)

end Sys2Proof.Machine
end

