-- ==== Sys2Proof/Machine/Step.lean ====
section
/-! DEFINITION. The step: one clock cycle of the block. -/

namespace Sys2Proof.Machine

/-- One cycle of 45_cycle.md R140. -/
def step (s : State) : Host.Outcome State Fault Refusal := performCycle s

/-- The word on the request ports of the next cycle, which is where the block takes what it does next:
it fetches nothing (10_state.md R23, log 5). -/
def State.withFetchWord (s : State) (nbits w : Nat) : State := s.withRequest (requestFrom nbits w)

end Sys2Proof.Machine
end

