-- ==== Sys2Proof/Machine/Adapter.lean ====
section
/-! DEFINITION. The pseudo-operations of the environment (30_encoding.md R82, 46_transport_adapter.md R151
to R153): sequences of cycles, no state of the block (log 13). -/

namespace Sys2Proof.Machine

/-- `ON_BYTE_RECEIVED b` (46_transport_adapter.md R151): one PUSH cycle, its responses ignored. -/
def onByteReceived (b : Byte) (s : State) : Outcome := step (s.withRequest (encode (.push b)))

/-- Bytes received one after another (46_transport_adapter.md R151), a cycle each. -/
def receiveAll : List Byte → State → Outcome
  | [], s => .next s
  | b :: rest, s =>
    match onByteReceived b s with
    | .next s' => receiveAll rest s'
    | .fault f => .fault f
    | .refused f => .refused f

/-- `MONITOR` (46_transport_adapter.md R153): a cycle with no request; its status ports are the sample. -/
def monitor (s : State) : Outcome := step (s.withRequest (encode .nop))

/-- What the others ask for in a cycle the consumer drives `pop_valid` in: the start-up code on `init`, the
producer on `push_valid` and `push_data` (46_transport_adapter.md R150). -/
structure Beside where
  init : Bool := false
  push : Option Byte := none
deriving DecidableEq, Repr

/-- The operations of the cycle, with the consumer's POP if it drives `pop_valid = 1`. -/
def Beside.line (b : Beside) (pop : Bool) : Line :=
  (if b.init then [.init] else []) ++ ((if pop then [.pop] else []) ++ b.push.toList.map .push)

/-- The request word of the cycle (30_encoding.md R74). -/
def Beside.word (b : Beside) (pop : Bool) : RequestWord := encodeLine (b.line pop)

/-- One turn of the drain's loop (46_transport_adapter.md R152): what the others ask for in its POP cycle, and
in each of the cycles, of any number, in which the sink then blocks and `pop_valid = 0`. -/
structure DrainRound where
  withPop : Beside := {}
  waits : List Beside := []
deriving DecidableEq, Repr

/-- Nobody asks for anything beside the consumer; the sink may block. -/
def DrainRound.quiet (d : DrainRound) : Bool := d.withPop == {} && d.waits.all (· == {})

/-- The request words of a turn whose POP succeeds: its POP cycle, then the cycles of the blocking sink. -/
def DrainRound.words (d : DrainRound) : List RequestWord :=
  d.withPop.word true :: d.waits.map (fun b => b.word false)

/-- The cycles in which the sink blocks: `pop_valid = 0`, the others go on asking. -/
def waitOut : List Beside → State → Outcome
  | [], s => .next s
  | b :: rest, s =>
    match step (s.withRequest (b.word false)) with
    | .next s' => waitOut rest s'
    | .fault f => .fault f
    | .refused f => .refused f

/-- What a drain came to: the bytes forwarded to the sink so far, in order, whether a POP has failed and so
ended the loop, and the state. -/
structure Drained where
  sent : List Byte
  finished : Bool
  state : State
deriving DecidableEq, Repr

/-- `DRAIN_TO sink` (46_transport_adapter.md R152): pop and forward until `pop_ok = 0`, the sink blocking after
each byte for as long as its turn says, the others asking for what they like meanwhile. The turns limit the
POPs; a drain that uses them up without a failed POP is not finished (log 13). `sent` is what the sink has
taken before. -/
def drainTo : List DrainRound → List Byte → State → Host.Outcome Drained Fault Refusal
  | [], sent, s => .next ⟨sent, false, s⟩
  | d :: rest, sent, s =>
    match step (s.withRequest (d.withPop.word true)) with
    | .next s' =>
      if s'.rsp.popOk then
        match waitOut d.waits s' with
        | .next s'' => drainTo rest (sent ++ [s'.rsp.popData]) s''
        | .fault f => .fault f
        | .refused f => .refused f
      else .next ⟨sent, true, s'⟩
    | .fault f => .fault f
    | .refused f => .refused f

end Sys2Proof.Machine
end

