-- ==== Sys2Proof/Machine/Build.lean ====
section
/-! DEFINITION. Building a block from raw parameters, or refusing them by name (00_scope.md R9,
60_exceptions.md R161). -/

namespace Sys2Proof

/-- The configuration errors of 60_exceptions.md R161: fatal, at build time, "never reachable at run
time". Safe: no machine exists. -/
inductive ConfigError where
  /-- `N` is not a power of two. -/
  | notPowerOfTwo
  /-- `N < 2`. -/
  | tooFewSlots
  /-- `LOW >= HIGH`. -/
  | thresholdOrder
  /-- `HIGH > N`. -/
  | thresholdTooHigh
  /-- `CW < 1`. -/
  | noCounterBits
deriving DecidableEq, Repr

/-- The first constraint of 00_scope.md R9 that the parameters break, if they break one. -/
def Params.error? (p : Params) : Option ConfigError :=
  if !p.powerOfTwo then some .notPowerOfTwo
  else if p.n < 2 then some .tooFewSlots
  else if p.high ≤ p.low then some .thresholdOrder
  else if p.n < p.high then some .thresholdTooHigh
  else if p.cw < 1 then some .noCounterBits
  else none

/-- Build a configuration, or refuse (00_scope.md R9, log 8). -/
def buildConfig (p : Params) : Except ConfigError Config :=
  if h : p.wellFormed = true then .ok ⟨p, h⟩
  else .error (p.error?.getD .notPowerOfTwo)

end Sys2Proof
end

