-- ==== Sys2Proof/Safety.lean ====
section
/-! DEFINITION. What claims are stated in: the hardware's own states, the invariants of 10_state.md R35,
the queue of R36, and runs under arbitrary request words. -/

namespace Sys2Proof.Machine

/-- Every field fits the width the spec gives it, and storage is in canonical form: the values a register
of the block can hold at all, the power-on state included (10_state.md R20, R21, R35 item 7; log 10). -/
abbrev State.Wf (s : State) : Prop :=
  s.w < s.cfg.n ∧ s.r < s.cfg.n ∧ s.ovf ≤ s.cfg.ovfMax ∧ Memory.wf s.mem ∧
    ∀ c ∈ s.mem, c.1 < s.cfg.n

/-- 10_state.md R35 items 3 and 4. -/
abbrev State.Hysteresis (s : State) : Prop :=
  (s.hwm = false → s.fill < s.cfg.high) ∧ (s.hwm = true → s.cfg.low < s.fill)

/-- Every live slot has been written (10_state.md R35 item 6). -/
abbrev State.LiveWritten (s : State) : Prop :=
  ∀ k < s.fill, (Memory.read? s.mem (slotOf s.cfg (s.r + k))).isSome = true

/-- The invariants of 10_state.md R35. They hold after INIT and after every cycle from there on; they need
not hold in the power-on state. -/
abbrev State.Inv (s : State) : Prop := s.Wf ∧ s.Hysteresis ∧ s.LiveWritten

/-- `Q(s)`, the live bytes, oldest first (10_state.md R36). -/
def State.queue (s : State) : List Byte :=
  (List.range s.fill).map (fun k => s.memRead (s.r + k))

/-- The status ports' values computed from one state (10_state.md R34). -/
def State.snapshot (s : State) : Status where
  empty := s.isEmpty
  full := s.isFull
  level := s.fill
  ovfCount := s.ovf
  hwmActive := s.hwm
  utilPct := s.util
  capacity := s.cfg.n

/-- Two states agree in everything an outside observer can ever find out: configuration, cursors, counter,
flag and live bytes (10_state.md R37). -/
abbrev State.Agrees (a b : State) : Prop :=
  a.cfg = b.cfg ∧ a.w = b.w ∧ a.r = b.r ∧ a.ovf = b.ovf ∧ a.hwm = b.hwm ∧ a.queue = b.queue

/-- Do two response words show an observer the same? `pop_data` counts only with `pop_ok = 1`
(43_pop.md R124). -/
abbrev Response.Agrees (a b : Response) : Prop :=
  a.pushOk = b.pushOk ∧ a.popOk = b.popOk ∧ a.ovfEvent = b.ovfEvent ∧
    (a.popOk = true → a.popData = b.popData)

/-- The effect on `Q` of one operation of a block of configuration `c` (10_state.md R36, the table). -/
def queueAfter (c : Config) (q : List Byte) : Instr → List Byte
  | .init => []
  | .push b =>
    if q.length = c.usable then
      match c.policy with
      | .dropNewest => q
      | .overwriteOldest => q.tail ++ [b]
    else q ++ [b]
  | .pop => q.tail
  | .nop => q
  | .isEmpty => q
  | .isFull => q
  | .level => q
  | .capacity => q
  | .status => q

/-- What was asked and what was answered, cycle by cycle, the earliest first. -/
abbrev Trace := List (RequestWord × Response)

/-- A run under request words of any choice (45_cycle.md R140: `(s_{t+1}, RSP_t) = step(s_t, REQ_t)`). -/
inductive Run : State → Trace → State → Prop where
  | done (s : State) : Run s [] s
  | cycle {s s' s'' : State} {q : RequestWord} {tr : Trace}
      (first : step (s.withRequest q) = .next s') (rest : Run s' tr s'') :
      Run s ((q, s'.rsp) :: tr) s''

/-- The bytes of the PUSHes that returned `push_ok = 1`, in order (20_memory.md R59). -/
def Trace.stored (tr : Trace) : List Byte :=
  tr.filterMap (fun x => if x.2.pushOk then some (reqData x.1) else none)

/-- The bytes returned by successful POPs, in order (20_memory.md R59). -/
def Trace.popped (tr : Trace) : List Byte :=
  tr.filterMap (fun x => if x.2.popOk then some x.2.popData else none)

/-- `D`, the number of displacing PUSHes (41_queries.md R99). -/
def Trace.displaced (tr : Trace) : Nat := tr.countP (fun x => x.2.pushOk && x.2.ovfEvent)

/-- The number of overflow events (42_push.md R111). -/
def Trace.overflows (tr : Trace) : Nat := tr.countP (fun x => x.2.ovfEvent)

/-- No cycle of the trace holds an INIT. -/
abbrev Trace.NoInit (tr : Trace) : Prop := ∀ x ∈ tr, reqInit x.1 = false

/-- The trace begins with an INIT cycle and holds no other INIT (70_reset_and_hazards.md R186: "an INIT
has been performed and no cycle before it matters"). -/
def Trace.SinceInit : Trace → Prop
  | [] => False
  | x :: rest => reqInit x.1 = true ∧ Trace.NoInit rest

end Sys2Proof.Machine
end

