-- ==== Sys2Proof/Certificates/Slice0/Obligations.lean ====
section
/-! DEFINITION. The statements for the provers. Each formalises rules of spec/; none is about a program.
The configuration is a field of the state, so a statement about every state is about every well-formed
configuration. -/

open Sys2Proof Sys2Proof.Machine

/-! ### Building a block, and reset -/

/-- 00_scope.md R9: a configuration is well-formed exactly when every constraint of R8 holds; then it is
built as asked for, and otherwise it is refused: there is an error, and no other configuration in its place.
`N` a power of two is said without the test R9 gives for it, and the test says the same. -/
def Obligations.BuildAcceptsExactlyWellFormedParameters : Prop :=
  ∀ p : Params,
    let good := (∃ k, p.n = 2 ^ k) ∧ 2 ≤ p.n ∧ p.low < p.high ∧ p.high ≤ p.n ∧ 1 ≤ p.cw
    (good → ∃ c, buildConfig p = .ok c ∧ c.toParams = p) ∧
    (¬good → ∃ e, buildConfig p = .error e) ∧
    (∀ c, buildConfig p = .ok c → c.toParams = p) ∧
    ((p.n ≠ 0 ∧ p.n &&& (p.n - 1) = 0) ↔ ∃ k, p.n = 2 ^ k)

/-- 60_exceptions.md R161: the configuration error names a constraint that the parameters do break. -/
def Obligations.BuildErrorNamesABrokenConstraint : Prop :=
  ∀ (p : Params) (e : ConfigError), buildConfig p = .error e →
    (e = .notPowerOfTwo → ∀ k, p.n ≠ 2 ^ k) ∧ (e = .tooFewSlots → p.n < 2) ∧
    (e = .thresholdOrder → p.high ≤ p.low) ∧ (e = .thresholdTooHigh → p.n < p.high) ∧
    (e = .noCounterBits → p.cw < 1)

/-- 10_state.md R39 and R34, the values after INIT, for a block of any configuration. That State.reset is
the state after INIT rather than the unspecified power-on state is the model's choice (log 2). -/
def Obligations.ResetStateHoldsTheValuesAfterInit : Prop :=
  ∀ c : Config, let s := State.resetOf c
    s.cfg = c ∧ s.w = 0 ∧ s.r = 0 ∧ s.ovf = 0 ∧ s.hwm = false ∧ s.isEmpty = true ∧ s.isFull = false ∧
    s.fill = 0 ∧ s.util = 0 ∧ s.stat = s.snapshot ∧ s.stat.capacity = c.n ∧ s.queue = []

/-! ### INIT and NOP -/

/-- 40_init_nop.md R90: `w`, `r`, `ovf`, `hwm` become 0 and nothing else is written, from any state; after
it the buffer reads as empty (`Q` included), and a second INIT changes nothing. INIT is asked for exactly by
bit 10. -/
def Obligations.InitClearsControlStateOnly : Prop :=
  (∀ s : State, ∃ u, exec .init s = .next u ∧
    u = { s with w := 0, r := 0, ovf := 0, hwm := false } ∧
    u.snapshot = ⟨true, false, 0, 0, false, 0, s.cfg.n⟩ ∧ u.queue = [] ∧
    exec .init u = .next u) ∧
  (∀ q : RequestWord, Instr.init ∈ decode q ↔ q &&& 0x400#11 = 0x400#11)

/-- 40_init_nop.md R91: NOP is the word with `REQ[10:8] = 000`; it writes no field and answers nothing, and
any number of such cycles leaves the block and its status as they are. That the byte on `pop_data`, which
R91 leaves unspecified, is `Config.unspecified8` of the cycle index is the model's choice (log 3). -/
def Obligations.NopWritesNothing : Prop :=
  (∀ q : RequestWord, decode q = [.nop] ↔ q &&& 0x700#11 = 0x000#11) ∧
  (∀ s : State, exec .nop s =
    .next { s with rsp := ⟨false, false, false, Config.unspecified8 s.t⟩ }) ∧
  (∀ (s u : State) (tr : Trace), (∀ x ∈ tr, x.1 &&& 0x700#11 = 0x000#11) → Run s tr u →
    u.cfg = s.cfg ∧ u.mem = s.mem ∧ u.w = s.w ∧ u.r = s.r ∧ u.ovf = s.ovf ∧ u.hwm = s.hwm ∧
    u.snapshot = s.snapshot ∧
    ∀ x ∈ tr, x.2.pushOk = false ∧ x.2.popOk = false ∧ x.2.ovfEvent = false)

/-! ### The queries -/

/-- 41_queries.md R96: port `empty` answers `w == r`; it is true after INIT, true exactly at level 0,
false when full, and a POP of a cycle without INIT fails exactly when it is 1. -/
def Obligations.IsEmptyAnswersCursorEquality : Prop :=
  (∀ s : State, exec .isEmpty s = .next { s with stat := { s.stat with empty := decide (s.w = s.r) } }) ∧
  (∀ s u : State, exec .init s = .next u → u.w = u.r) ∧
  (∀ s : State, s.Wf → (s.w = s.r ↔ s.fill = 0) ∧ (s.isFull = true → s.w ≠ s.r)) ∧
  (∀ (s u : State) (q : RequestWord), reqInit q = false → reqPop q = true →
    step (s.withRequest q) = .next u → (u.rsp.popOk = false ↔ u.stat.empty = true))

/-- 41_queries.md R97: port `full` answers `((w + 1) & MASK) == r`; it is true exactly at level `N - 1`,
false after INIT, and a PUSH of a cycle with neither INIT nor a successful POP overflows exactly when it
is 1, while with a successful POP it finds room. -/
def Obligations.IsFullAnswersNextWriteIsRead : Prop :=
  (∀ s : State, exec .isFull s =
    .next { s with stat := { s.stat with full := decide ((s.w + 1) &&& (s.cfg.n - 1) = s.r) } }) ∧
  (∀ s : State, s.Wf → (s.isFull = true ↔ s.fill = s.cfg.n - 1)) ∧
  (∀ s u : State, exec .init s = .next u → u.isFull = false) ∧
  (∀ (s u : State) (q : RequestWord), s.Wf → reqInit q = false → reqPush q = true →
    step (s.withRequest q) = .next u →
    (u.rsp.popOk = false → (u.rsp.ovfEvent = true ↔ u.stat.full = true)) ∧
    (u.rsp.popOk = true → u.rsp.ovfEvent = false))

/-- 41_queries.md R98: port `level` answers `(w - r) mod N`, computed on integers; it is never `N`. -/
def Obligations.LevelAnswersCursorDifferenceModN : Prop :=
  ∀ s : State, s.Wf →
    exec .level s = .next { s with stat := { s.stat with
      level := (((s.w : Int) - (s.r : Int)) % (s.cfg.n : Int)).toNat } } ∧
    s.fill < s.cfg.n

/-- 41_queries.md R101: port `capacity` answers `N`, in every state, and no cycle changes what it answers;
at most `N - 1` bytes are ever stored. -/
def Obligations.CapacityAnswersN : Prop :=
  ∀ s : State, exec .capacity s = .next { s with stat := { s.stat with capacity := s.cfg.n } } ∧
    s.queue.length ≤ s.cfg.n - 1 ∧
    ∀ u, step s = .next u → u.stat.capacity = s.cfg.n ∧ u.cfg.n = s.cfg.n

/-- 44_status.md R130: STATUS drives the four ports of the snapshot and no other. -/
def Obligations.StatusAnswersFourValues : Prop :=
  ∀ s : State, exec .status s = .next { s with stat := { s.stat with
    level := (s.w + s.cfg.n - s.r) &&& (s.cfg.n - 1), ovfCount := s.ovf, hwmActive := s.hwm,
    utilPct := ((s.w + s.cfg.n - s.r) &&& (s.cfg.n - 1)) * 100 / s.cfg.n } }

/-! ### Derived values -/

/-- 10_state.md R31: with the reserved slot, empty is level 0, full is level `N - 1`, they exclude each
other, and slot `w` never holds a live byte. -/
def Obligations.ReservedSlotSeparatesFullFromEmpty : Prop :=
  ∀ s : State, s.Wf →
    (s.isEmpty = true ↔ s.fill = 0) ∧ (s.isFull = true ↔ s.fill = s.cfg.n - 1) ∧
    ¬(s.isEmpty = true ∧ s.isFull = true) ∧ s.fill ≤ s.cfg.n - 1 ∧
    ∀ k < s.fill, slotOf s.cfg (s.r + k) ≠ s.w

/-- 10_state.md R32: utilization is the floor of `level * 100 / N`, at most 99, and a right shift by `AW`
of the untruncated product. -/
def Obligations.UtilizationIsFlooredAndBelowHundred : Prop :=
  ∀ s : State, s.util = s.fill * 100 / s.cfg.n ∧ s.util ≤ 99 ∧ s.util = (s.fill * 100) >>> s.cfg.aw

/-- 10_state.md R23: INIT sets a cursor to 0, no operation moves it otherwise than by one with wrap from
`N - 1` to 0, or leaves it. -/
def Obligations.CursorsMoveByOneOrNotAtAll : Prop :=
  ∀ (i : Instr) (s u : State), s.Wf → i ≠ .init → exec i s = .next u →
    (u.w = s.w ∨ u.w = if s.w = s.cfg.n - 1 then 0 else s.w + 1) ∧
    (u.r = s.r ∨ u.r = if s.r = s.cfg.n - 1 then 0 else s.r + 1)

/-! ### PUSH -/

/-- 42_push.md R107, R108: the plain store. -/
def Obligations.PushWithRoomStoresAtWriteCursor : Prop :=
  ∀ (s : State) (b : Byte), s.Wf → s.isFull = false → ∃ u, exec (.push b) s = .next u ∧
    u = { s with
      mem := Memory.write s.mem s.w b
      w := (s.w + 1) % s.cfg.n
      hwm := s.hwm || decide (s.cfg.high ≤ s.fill + 1)
      rsp := { s.rsp with pushOk := true, ovfEvent := false } } ∧
    u.memRead s.w = b ∧ u.fill = s.fill + 1 ∧ u.queue = s.queue ++ [b]

/-- 42_push.md R110: overflow under DROP_NEWEST changes the counter and nothing else. -/
def Obligations.PushOnFullDropsTheNewest : Prop :=
  ∀ (s : State) (b : Byte), s.isFull = true → s.cfg.policy = .dropNewest →
    exec (.push b) s = .next { s with
      ovf := min (s.ovf + 1) (2 ^ s.cfg.cw - 1)
      rsp := { s.rsp with pushOk := false, ovfEvent := true } }

/-- 42_push.md R109: overflow under OVERWRITE_OLDEST displaces the oldest byte and stores at the write
cursor; the level stays, the watermark is not examined, and the displaced byte's slot keeps its value. -/
def Obligations.PushOnFullOverwritesTheOldest : Prop :=
  ∀ (s : State) (b : Byte), s.Wf → s.isFull = true → s.cfg.policy = .overwriteOldest →
    ∃ u, exec (.push b) s = .next u ∧
    u = { s with
      ovf := min (s.ovf + 1) (2 ^ s.cfg.cw - 1)
      r := (s.r + 1) % s.cfg.n
      mem := Memory.write s.mem s.w b
      w := (s.w + 1) % s.cfg.n
      rsp := { s.rsp with pushOk := true, ovfEvent := true } } ∧
    u.fill = s.fill ∧ u.queue = s.queue.tail ++ [b] ∧ u.memRead s.w = b ∧ u.w = s.r ∧
    u.memRead s.r = s.memRead s.r

/-- 42_push.md R111: `ovf_event` says that the buffer was full, and the counter goes up by one then, up to
its maximum, where it stays. -/
def Obligations.PushCountsOverflowExactlyWhenFull : Prop :=
  ∀ (s u : State) (b : Byte), s.Wf → exec (.push b) s = .next u →
    u.rsp.ovfEvent = s.isFull ∧
    (s.isFull = false → u.ovf = s.ovf) ∧
    (s.isFull = true → s.ovf < 2 ^ s.cfg.cw - 1 → u.ovf = s.ovf + 1) ∧
    (s.isFull = true → s.ovf = 2 ^ s.cfg.cw - 1 → u.ovf = s.ovf)

/-- 42_push.md R112: `push_ok` is false only under drop-newest on full; when it is true the byte is the
last one of `Q`. -/
def Obligations.PushOkMeansTheByteIsStored : Prop :=
  ∀ (s u : State) (b : Byte), s.Wf → exec (.push b) s = .next u →
    (u.rsp.pushOk = false ↔ s.isFull = true ∧ s.cfg.policy = .dropNewest) ∧
    (u.rsp.pushOk = true → u.queue.getLast? = some b) ∧
    (u.rsp.pushOk = false → u.queue = s.queue)

/-! ### POP -/

/-- 43_pop.md R121, R122: the successful POP. -/
def Obligations.PopReturnsTheOldestByte : Prop :=
  ∀ s : State, s.Wf → s.isEmpty = false → ∃ u, exec .pop s = .next u ∧
    u = { s with
      r := (s.r + 1) % s.cfg.n
      hwm := s.hwm && !decide (s.fill - 1 ≤ s.cfg.low)
      rsp := { s.rsp with popOk := true, popData := s.memRead s.r } } ∧
    u.fill + 1 = s.fill ∧ s.queue = u.rsp.popData :: u.queue

/-- 43_pop.md R123: POP on an empty buffer fails and changes no field of the block. The spec specifies no
value on `pop_data` then (R124); that it is `Config.unspecified8` of the cycle index is the model's choice
(log 3). -/
def Obligations.PopOnEmptyChangesNothing : Prop :=
  ∀ s : State, s.isEmpty = true →
    exec .pop s = .next { s with
      rsp := { s.rsp with popOk := false, popData := Config.unspecified8 s.t } }

/-! ### Flags and the counter -/

/-- 10_state.md R28: what each operation does to the watermark flag, and that it changes only where the
level crosses a threshold. -/
def Obligations.WatermarkFlagChangesOnlyAtThresholds : Prop :=
  (∀ (s u : State), exec .init s = .next u → u.hwm = false) ∧
  (∀ (s u : State) (b : Byte), s.Wf → exec (.push b) s = .next u →
    u.hwm = (s.hwm || (!s.isFull && decide (s.cfg.high ≤ u.fill)))) ∧
  (∀ (s u : State), s.Wf → exec .pop s = .next u →
    u.hwm = (s.hwm && !(!s.isEmpty && decide (u.fill ≤ s.cfg.low)))) ∧
  (∀ (i : Instr) (s u : State), i.slot = none → exec i s = .next u → u.hwm = s.hwm) ∧
  (∀ (i : Instr) (s u : State), s.Inv → i ≠ .init → exec i s = .next u → u.hwm ≠ s.hwm →
    (s.hwm = false → s.fill < s.cfg.high ∧ s.cfg.high ≤ u.fill) ∧
    (s.hwm = true → s.cfg.low < s.fill ∧ u.fill ≤ s.cfg.low))

/-- 70_reset_and_hazards.md R195: with `HIGH = N` the flag never sets. -/
def Obligations.ThresholdAtNNeverSetsTheFlag : Prop :=
  ∀ (s u : State), s.Wf → s.cfg.high = s.cfg.n → s.hwm = false → step s = .next u → u.hwm = false

/-- 10_state.md R27 and R35 item 5: the counter never falls but by an INIT, which sets it to 0, and only
a PUSH on a full buffer raises it, by one, up to its maximum. -/
def Obligations.OverflowCounterFallsOnlyByInit : Prop :=
  (∀ (i : Instr) (s u : State), s.Wf → exec i s = .next u →
    (i = .init → u.ovf = 0) ∧
    (i ≠ .init → s.ovf ≤ u.ovf ∧ u.ovf ≤ s.ovf + 1 ∧
      (u.ovf ≠ s.ovf → s.isFull = true ∧ ∃ b, i = .push b))) ∧
  (∀ (s u : State) (q : RequestWord), s.Wf → reqInit q = false →
    step (s.withRequest q) = .next u → s.ovf ≤ u.ovf ∧ u.ovf ≤ 2 ^ s.cfg.cw - 1)

/-! ### Frames -/

/-- What the queries leave unchanged: everything but the ports each of them drives. -/
def Obligations.QueriesWriteOnlyTheirPorts : Prop :=
  ∀ (i : Instr) (s u : State),
    i = .isEmpty ∨ i = .isFull ∨ i = .level ∨ i = .capacity ∨ i = .status → exec i s = .next u →
    u.cfg = s.cfg ∧ u.w = s.w ∧ u.r = s.r ∧ u.ovf = s.ovf ∧ u.hwm = s.hwm ∧ u.reqs = s.reqs ∧
    u.rsp = s.rsp ∧ u.t = s.t ∧ (∀ a, u.memRead a = s.memRead a) ∧ u.mem = s.mem ∧
    (i ≠ .isEmpty → u.stat.empty = s.stat.empty) ∧ (i ≠ .isFull → u.stat.full = s.stat.full) ∧
    (i ≠ .capacity → u.stat.capacity = s.stat.capacity) ∧
    (i ≠ .level ∧ i ≠ .status → u.stat.level = s.stat.level) ∧
    (i ≠ .status → u.stat.ovfCount = s.stat.ovfCount ∧ u.stat.hwmActive = s.stat.hwmActive ∧
      u.stat.utilPct = s.stat.utilPct)

/-- What NOP, INIT and POP leave unchanged. INIT writes both cursors, the counter and the flag; POP the
read cursor, the flag (clear only) and its two ports; NOP the response ports. None stores a byte. -/
def Obligations.NonStoringRequestsKeepStorage : Prop :=
  ∀ (i : Instr) (s u : State), i = .nop ∨ i = .init ∨ i = .pop → exec i s = .next u →
    u.cfg = s.cfg ∧ u.reqs = s.reqs ∧ u.stat = s.stat ∧ u.t = s.t ∧
    (∀ a, u.memRead a = s.memRead a) ∧ u.mem = s.mem ∧
    (i ≠ .init → u.w = s.w ∧ u.ovf = s.ovf) ∧
    (i = .nop → u.r = s.r ∧ u.hwm = s.hwm) ∧
    (i = .init → u.rsp = s.rsp) ∧
    (i = .pop → u.rsp.pushOk = s.rsp.pushOk ∧ u.rsp.ovfEvent = s.rsp.ovfEvent ∧
      (s.hwm = false → u.hwm = false) ∧ (s.isEmpty = true → u.r = s.r ∧ u.hwm = s.hwm))

/-- What PUSH leaves unchanged. The stored byte goes to the slot the meaning computes, `storeSlot`; every
other slot reads as before, and all of them when the byte is dropped. The read cursor moves only on a
displacing PUSH, the counter only on a full buffer, the flag only on a plain store. -/
def Obligations.PushKeepsEveryOtherSlot : Prop :=
  ∀ (s u : State) (b : Byte), exec (.push b) s = .next u →
    u.cfg = s.cfg ∧ u.reqs = s.reqs ∧ u.stat = s.stat ∧ u.t = s.t ∧
    u.rsp.popOk = s.rsp.popOk ∧ u.rsp.popData = s.rsp.popData ∧
    (∀ a, slotOf s.cfg a ≠ s.storeSlot → u.memRead a = s.memRead a) ∧
    (s.isFull = true → s.cfg.policy = .dropNewest → (∀ a, u.memRead a = s.memRead a) ∧ u.w = s.w) ∧
    (s.isFull = false ∨ s.cfg.policy = .dropNewest → u.r = s.r) ∧
    (s.isFull = false → u.ovf = s.ovf) ∧ (s.isFull = true → u.hwm = s.hwm)

/-! ### The cycle -/

/-- 60_exceptions.md R160: every operation answers a next state, and so does every cycle, from every
state. -/
def Obligations.EveryOperationAndEveryCycleCompletes : Prop :=
  (∀ (i : Instr) (s : State), ∃ u, exec i s = .next u) ∧ (∀ s : State, ∃ u, step s = .next u)

/-- A step runs the operations decoded from the request word, one after another by exec, on the
start-of-cycle state with idle responses and the status ports showing it; the request word of a single
request operation runs exactly that operation. The cycle index, the ports as fields and the byte of an idle
`pop_data` are the model's choices (logs 7, 6 and 3). -/
def Obligations.StepRunsTheDecodedOperations : Prop :=
  (∀ (s : State) (q : RequestWord),
    step (s.withRequest q) = runLine (decode q) { s with
      t := s.t + 1
      rsp := ⟨false, false, false, Config.unspecified8 (s.t + 1)⟩
      stat := s.snapshot }) ∧
  (∀ (s : State) (i : Instr), i.isRequest = true →
    step (s.withRequest (encode i)) = exec i { s with
      t := s.t + 1
      rsp := ⟨false, false, false, Config.unspecified8 (s.t + 1)⟩
      stat := s.snapshot })

/-- 45_cycle.md R140: INIT if asked for, then POP if asked for, then PUSH if asked for, each on the state
the one before left. The model's choices in it: the cycle index `t` goes up (log 7), the ports are fields set
at the start (log 6), and `pop_data` without a POP is `Config.unspecified8` of the index (log 3). -/
def Obligations.StepIsInitThenPopThenPush : Prop :=
  ∀ (s : State) (q : RequestWord), ∃ s0 s1 s2 s3 : State,
    s0 = { s with t := s.t + 1, stat := s.snapshot,
                  rsp := ⟨false, false, false, Config.unspecified8 (s.t + 1)⟩ } ∧
    (if reqInit q then exec .init s0 = .next s1 else s1 = s0) ∧
    (if reqPop q then exec .pop s1 = .next s2 else s2 = s1) ∧
    (if reqPush q then exec (.push (reqData q)) s2 = .next s3 else s3 = s2) ∧
    step (s.withRequest q) = .next s3 ∧ s3.stat = s.snapshot

/-- 44_status.md R131: every status port of a cycle shows the start-of-cycle state, and so `hwm_active`
agrees with the `level` beside it where 10_state.md R35 items 3 and 4 hold. That the cycle takes the first
word of `reqs` and that its index `t` goes up are the model's choices (logs 5 and 7), no part of R131. -/
def Obligations.StatusShowsTheStartOfTheCycle : Prop :=
  ∀ (s u : State), step s = .next u →
    u.stat = ⟨decide (s.w = s.r), decide (advance s.cfg s.w = s.r), s.fill, s.ovf, s.hwm,
      s.fill * 100 / s.cfg.n, s.cfg.n⟩ ∧
    u.stat.utilPct = u.stat.level * 100 / u.cfg.n ∧
    (s.Hysteresis → (u.stat.hwmActive = false → u.stat.level < u.cfg.high) ∧
      (u.stat.hwmActive = true → u.cfg.low < u.stat.level)) ∧
    u.cfg = s.cfg ∧ u.reqs = s.reqs.tail ∧ u.t = s.t + 1

/-- 44_status.md R132: after any number of NOP cycles, the status ports of the next cycle, whatever it
asks for, show what they showed in the first. -/
def Obligations.StatusIsIdempotentOverNopCycles : Prop :=
  ∀ (s u v : State) (tr : Trace) (q : RequestWord), (∀ x ∈ tr, x.1 &&& 0x700#11 = 0x000#11) →
    Run s tr u → step (u.withRequest q) = .next v → v.stat = s.snapshot

/-- 45_cycle.md R143: POP and PUSH in one cycle, from an empty buffer, from one that is neither, and from
a full one; and the flag's two updates in sequence. -/
def Obligations.PopThenPushInOneCycle : Prop :=
  ∀ (s u : State) (q : RequestWord), s.Wf →
    reqInit q = false → reqPop q = true → reqPush q = true → step (s.withRequest q) = .next u →
    u.rsp.pushOk = true ∧ u.rsp.ovfEvent = false ∧ u.ovf = s.ovf ∧ u.w = (s.w + 1) % s.cfg.n ∧
    u.memRead s.w = reqData q ∧
    (s.isEmpty = true → u.rsp.popOk = false ∧ u.r = s.r ∧ u.fill = 1 ∧ u.queue = [reqData q]) ∧
    (s.isEmpty = false → u.rsp.popOk = true ∧ u.rsp.popData = s.memRead s.r ∧
      u.r = (s.r + 1) % s.cfg.n ∧ u.fill = s.fill ∧ u.queue = s.queue.tail ++ [reqData q]) ∧
    (s.Inv → s.isEmpty = false →
      (s.hwm = false → u.hwm = false) ∧
      (s.hwm = true → (u.hwm = true ↔
        s.cfg.low < s.fill - 1 ∨ (s.fill = s.cfg.high ∧ s.cfg.high = s.cfg.low + 1))))

/-- 45_cycle.md R144: INIT with other requests in its cycle, from any state. -/
def Obligations.InitWithOtherRequestsInOneCycle : Prop :=
  ∀ (s u : State) (q : RequestWord), reqInit q = true → step (s.withRequest q) = .next u →
    u.r = 0 ∧ u.ovf = 0 ∧ u.rsp.popOk = false ∧ u.rsp.ovfEvent = false ∧ u.rsp.pushOk = reqPush q ∧
    (reqPush q = false → u.w = 0 ∧ u.hwm = false ∧ u.mem = s.mem ∧ u.queue = []) ∧
    (reqPush q = true → u.w = 1 ∧ u.fill = 1 ∧ u.memRead 0 = reqData q ∧ u.queue = [reqData q] ∧
      (u.hwm = true ↔ s.cfg.high = 1))

/-- 60_exceptions.md R168 items 1 to 3: an overflow shares its cycle with no POP and no INIT. -/
def Obligations.OverflowSharesItsCycleWithNoPopOrInit : Prop :=
  ∀ (s u : State) (q : RequestWord), s.Wf → step (s.withRequest q) = .next u →
    (reqPop q = true → u.rsp.popOk = false → u.rsp.ovfEvent = false) ∧
    (u.rsp.popOk = true → u.rsp.ovfEvent = false) ∧
    (u.rsp.ovfEvent = true → reqPop q = false ∧ reqInit q = false ∧ reqPush q = true)

/-- 70_reset_and_hazards.md R191: what `full` and `empty` say about the responses of the same cycle, and
where they do not predict them. -/
def Obligations.FullAndEmptyPredictOnlyPlainCycles : Prop :=
  ∀ (s u : State) (q : RequestWord), s.Wf → step (s.withRequest q) = .next u →
    (reqInit q = false → reqPop q = false →
      (u.rsp.pushOk = true ↔
        reqPush q = true ∧ (u.stat.full = false ∨ s.cfg.policy = .overwriteOldest))) ∧
    (reqInit q = false → (u.rsp.popOk = true ↔ reqPop q = true ∧ u.stat.empty = false)) ∧
    (u.stat.full = true → u.rsp.popOk = true → reqPush q = true → u.rsp.pushOk = true) ∧
    (u.stat.empty = false → reqInit q = true → reqPop q = true → u.rsp.popOk = false)

/-- 30_encoding.md R78: the fields of the response word, and the constraints between them. -/
def Obligations.ResponseWordFieldsAndConstraints : Prop :=
  (∀ p : Response, p.word.getLsbD 10 = p.pushOk ∧ p.word.getLsbD 9 = p.popOk ∧
    p.word.getLsbD 8 = p.ovfEvent ∧ p.word.extractLsb' 0 8 = p.popData) ∧
  (∀ (s u : State) (q : RequestWord), step (s.withRequest q) = .next u →
    (u.rsp.pushOk = true ∨ u.rsp.ovfEvent = true → reqPush q = true) ∧
    (s.cfg.policy = .dropNewest → reqPush q = true → u.rsp.pushOk = !u.rsp.ovfEvent) ∧
    (s.cfg.policy = .overwriteOldest → reqPush q = true → u.rsp.pushOk = true))

/-- 45_cycle.md R147: what each output depends on within a cycle; none depends on `push_data`. -/
def Obligations.OutputsDoNotDependOnPushData : Prop :=
  ∀ (s u v : State) (q p : RequestWord),
    step (s.withRequest q) = .next u → step (s.withRequest p) = .next v →
    u.stat = v.stat ∧
    (reqInit q = reqInit p → reqPop q = reqPop p → u.rsp.popOk = v.rsp.popOk) ∧
    (u.rsp.popOk = true → v.rsp.popOk = true → u.rsp.popData = v.rsp.popData) ∧
    (reqInit q = reqInit p → reqPop q = reqPop p → reqPush q = reqPush p →
      u.rsp.pushOk = v.rsp.pushOk ∧ u.rsp.ovfEvent = v.rsp.ovfEvent ∧
      u.w = v.w ∧ u.r = v.r ∧ u.ovf = v.ovf ∧ u.hwm = v.hwm)

/-! ### Invariants -/

/-- The invariants of 10_state.md R35 hold at reset, for every configuration. -/
def Obligations.InvariantsHoldAtReset : Prop := ∀ c : Config, (State.resetOf c).Inv

/-- Every cycle keeps each register within its width and storage in its canonical form, from any state in
which they are so, the power-on state included (10_state.md R21, R35 item 7). -/
def Obligations.EveryCycleKeepsRegistersInRange : Prop :=
  ∀ (s u : State), s.Wf → step s = .next u → u.Wf

/-- Every cycle keeps the invariants of 10_state.md R35: the watermark flag agrees with the level against
both thresholds, and every live slot has been written. -/
def Obligations.EveryCycleKeepsTheInvariants : Prop :=
  ∀ (s u : State), s.Inv → step s = .next u → u.Inv

/-- 10_state.md R35: the seven items, in every state reached from any state of the hardware, the power-on state
included, by a run that begins with an INIT and holds no later one. -/
def Obligations.InvariantsHoldSinceInit : Prop :=
  ∀ (s u : State) (tr : Trace), s.Wf → tr.SinceInit → Run s tr u →
    u.fill ≤ u.cfg.n - 1 ∧ (u.isEmpty = true ↔ u.w = u.r) ∧
    (u.hwm = false → u.fill < u.cfg.high) ∧ (u.hwm = true → u.cfg.low < u.fill) ∧
    (∀ (q : RequestWord) (v : State), reqInit q = false → step (u.withRequest q) = .next v →
      u.ovf ≤ v.ovf) ∧
    (∀ k < u.fill, ∃ b ∈ tr.stored, Memory.read? u.mem (slotOf u.cfg (u.r + k)) = some b) ∧
    u.w < u.cfg.n ∧ u.r < u.cfg.n

/-! ### The queue -/

/-- 10_state.md R36: what each operation does to `Q`, and that a POP returns its head. -/
def Obligations.EveryOperationActsOnTheQueue : Prop :=
  ∀ (i : Instr) (s u : State), s.Wf → exec i s = .next u →
    s.queue.length = s.fill ∧ u.queue = queueAfter s.cfg s.queue i ∧
    (i = .pop → (u.rsp.popOk = true ↔ s.queue ≠ []) ∧
      ∀ d rest, s.queue = d :: rest → u.rsp.popData = d)

/-- 45_cycle.md R146 and 10_state.md R36: a cycle acts on `Q` as its operations do, one after another. -/
def Obligations.EveryCycleActsOnTheQueueInOrder : Prop :=
  ∀ (s u : State) (q : RequestWord), s.Wf → step (s.withRequest q) = .next u →
    u.queue = (decode q).foldl (queueAfter s.cfg) s.queue

/-- 10_state.md R37: two states that agree on configuration, cursors, counter, flag and `Q` answer every
sequence of requests alike, show the same status in each cycle of it, and stay in agreement, whatever their
other slots hold. -/
def Obligations.SlotsOutsideTheQueueAreNeverObserved : Prop :=
  ∀ (s v s' v' : State) (tr ts : Trace), s.Wf → v.Wf → s.Agrees v → Run s tr s' → Run v ts v' →
    tr.map Prod.fst = ts.map Prod.fst →
    s'.Agrees v' ∧ (∀ p ∈ tr.zip ts, p.1.2.Agrees p.2.2) ∧
    ∀ (q : RequestWord) (s'' v'' : State), step (s'.withRequest q) = .next s'' →
      step (v'.withRequest q) = .next v'' → s''.stat = v''.stat ∧ s''.rsp.Agrees v''.rsp

/-! ### Runs -/

/-- 30_encoding.md R79: every sequence of request words can be run, from every state. -/
def Obligations.EveryRequestSequenceRuns : Prop :=
  ∀ (s : State) (ws : List RequestWord), ∃ (tr : Trace) (u : State),
    Run s tr u ∧ tr.map Prod.fst = ws

/-- 41_queries.md R99: the accounting law, since an INIT, from any state before it. -/
def Obligations.LevelIsStoredMinusPoppedMinusDisplaced : Prop :=
  ∀ (s u : State) (tr : Trace), s.Wf → tr.SinceInit → Run s tr u →
    u.fill + tr.popped.length + tr.displaced = tr.stored.length ∧
    (s.cfg.policy = .dropNewest → tr.displaced = 0)

/-- 20_memory.md R59: since an INIT, the stored bytes in order are the bytes that left, popped (`true`) or
displaced (`false`), followed by those still in the queue; none leaves twice, none out of turn. -/
def Obligations.BytesLeaveInTheOrderTheyWereStored : Prop :=
  ∀ (s u : State) (tr : Trace), s.Wf → tr.SinceInit → Run s tr u →
    ∃ out : List (Bool × Byte),
      out.map Prod.snd ++ u.queue = tr.stored ∧
      (out.filter (fun x => x.1)).map Prod.snd = tr.popped ∧
      (out.filter (fun x => !x.1)).length = tr.displaced ∧
      tr.popped.Sublist tr.stored ∧
      (s.cfg.policy = .dropNewest → tr.popped <+: tr.stored) ∧
      (s.cfg.policy = .overwriteOldest → u.ovf = min tr.displaced (2 ^ s.cfg.cw - 1))

/-- 10_state.md R27: since an INIT the counter is the number of overflow events, exact until it is
saturated. -/
def Obligations.CounterHoldsOverflowsSinceInit : Prop :=
  ∀ (s u : State) (tr : Trace), s.Wf → tr.SinceInit → Run s tr u →
    u.ovf = min tr.overflows (2 ^ s.cfg.cw - 1)

/-! ### Encoding -/

/-- 30_encoding.md R76, R81: the decoder gives back every line that can be asked for, with every byte. -/
def Obligations.DecodeUndoesEncodeOfEveryLine : Prop :=
  ∀ l : Line, l.wellFormed = true → decode (encodeLine l) = l

/-- 30_encoding.md R75, R79: every word decodes to a well-formed line, whose canonical word is the word
with its ignored bits zero; and those bits affect neither the next state nor a response. -/
def Obligations.EncodeUndoesDecodeUpToIgnoredBits : Prop :=
  ∀ q : RequestWord, (decode q).wellFormed = true ∧
    (encodeLine (decode q) = if reqPush q then q else q &&& 0x700#11) ∧
    ∀ s : State, reqPush q = false →
      step (s.withRequest q) = step (s.withRequest (q &&& 0x700#11))

/-- 30_encoding.md R76, the table's example words. -/
def Obligations.ExampleWordsDecodeAsTheTableSays : Prop :=
  decode 0x000#11 = [.nop] ∧ decode 0x141#11 = [.push 0x41#8] ∧ decode 0x200#11 = [.pop] ∧
  decode 0x355#11 = [.pop, .push 0x55#8] ∧ decode 0x400#11 = [.init] ∧
  decode 0x541#11 = [.init, .push 0x41#8] ∧ decode 0x600#11 = [.init, .pop] ∧
  decode 0x799#11 = [.init, .pop, .push 0x99#8]

/-! ### The environment's pseudo-operations -/

/-- 46_transport_adapter.md R153: MONITOR samples the status ports of one cycle and never mutates the
buffer. -/
def Obligations.MonitorNeverMutatesTheBuffer : Prop :=
  ∀ s : State, ∃ u, monitor s = .next u ∧ u.stat = s.snapshot ∧ u.cfg = s.cfg ∧ u.mem = s.mem ∧
    u.w = s.w ∧ u.r = s.r ∧ u.ovf = s.ovf ∧ u.hwm = s.hwm ∧ u.reqs = s.reqs

/-- 46_transport_adapter.md R152: a drain beside which nobody else asks for anything, the sink blocking as
long as it likes after each byte, forwards the live bytes in order and ends with the buffer empty, after one
POP more than there were bytes. -/
def Obligations.DrainForwardsTheQueueAndEmptiesIt : Prop :=
  ∀ (s : State) (rounds : List DrainRound), s.Wf → (∀ d ∈ rounds, d.quiet = true) →
    s.fill < rounds.length →
    ∃ u, drainTo rounds [] s = .next ⟨s.queue, true, u⟩ ∧ u.isEmpty = true ∧ u.ovf = s.ovf

/-- 95_test_vectors.md S8: bytes received into an empty buffer, no more of them than the usable capacity,
drain in the same order and leave the buffer empty. -/
def Obligations.RoundTripUpToUsableCapacity : Prop :=
  ∀ (s : State) (bs : List Byte) (rounds : List DrainRound), s.Wf → s.isEmpty = true →
    bs.length ≤ s.cfg.usable → (∀ d ∈ rounds, d.quiet = true) → rounds.length = bs.length + 1 →
    ∃ u v, receiveAll bs s = .next u ∧ u.queue = bs ∧ u.ovf = s.ovf ∧
      drainTo rounds [] u = .next ⟨bs, true, v⟩ ∧ v.isEmpty = true

/-- 46_transport_adapter.md R152: whatever the others ask for in and between its POP cycles and however long
the sink blocks, a drain completes as a run of request words, those of its turns in order: a POP in the first
cycle of each, none while the sink blocks. It forwards what its POPs return, in order, and stops at the first
POP that fails and nowhere else before its turns are used up. -/
def Obligations.DrainIsARunThatStopsAtTheFirstFailedPop : Prop :=
  (∀ (b : Beside) (pop : Bool), reqInit (b.word pop) = b.init ∧ reqPop (b.word pop) = pop ∧
    reqPush (b.word pop) = b.push.isSome ∧ ∀ v, b.push = some v → reqData (b.word pop) = v) ∧
  ∀ (s : State) (rounds : List DrainRound),
    ∃ (d : Drained) (tr : Trace), drainTo rounds [] s = .next d ∧ Run s tr d.state ∧
      d.sent = tr.popped ∧
      tr.map Prod.fst <+: rounds.flatMap DrainRound.words ∧
      (d.finished = false → tr.map Prod.fst = rounds.flatMap DrainRound.words) ∧
      (∀ x ∈ tr.dropLast, reqPop x.1 = true → x.2.popOk = true) ∧
      (d.finished = true ↔ ∃ x, tr.getLast? = some x ∧ reqPop x.1 = true ∧ x.2.popOk = false)

/-- 46_transport_adapter.md R152, "While the producer keeps pushing, the loop need not end": from a buffer
that is not empty, a drain in each of whose turns the producer pushes at least once, in the POP cycle or while
the sink blocks, never meets a failed POP, however many turns it is given: it forwards a byte in every one. -/
def Obligations.DrainNeedNotEndWhileTheProducerPushes : Prop :=
  ∀ (s : State) (rounds : List DrainRound), s.Wf → s.isEmpty = false →
    (∀ d ∈ rounds, ∀ b ∈ d.withPop :: d.waits, b.init = false) →
    (∀ d ∈ rounds, ∃ b ∈ d.withPop :: d.waits, b.push.isSome = true) →
    ∃ d, drainTo rounds [] s = .next d ∧ d.finished = false ∧ d.sent.length = rounds.length ∧
      d.state.isEmpty = false
end

