-- ==== Sys2Proof/Laws/Decode.lean ====
section
/-! SUPPORT. What the decoder reads and what the encoder writes, bit by bit. -/

namespace Sys2Proof

/-- Each row of the opcode table fits a word exactly when its slot bits say so (30_encoding.md R76). -/
theorem requestRows_fits (q : RequestWord) :
    (RequestRow.fits ⟨0x400#11, 0x400#11, fun _ => .init⟩ q = reqInit q) ∧
    (RequestRow.fits ⟨0x200#11, 0x200#11, fun _ => .pop⟩ q = reqPop q) ∧
    (RequestRow.fits ⟨0x100#11, 0x100#11, fun b => .push b⟩ q = reqPush q) ∧
    (RequestRow.fits ⟨0x700#11, 0x000#11, fun _ => .nop⟩ q =
      (!reqInit q && !reqPop q && !reqPush q)) := by
  simp only [RequestRow.fits, reqInit, reqPop, reqPush]
  decide +revert

/-- The decoded line, slot by slot, in the order of execution (30_encoding.md R76, 45_cycle.md R142). -/
theorem decode_eq (q : RequestWord) :
    decode q =
      (if reqInit q then [Instr.init] else []) ++ ((if reqPop q then [Instr.pop] else []) ++
        ((if reqPush q then [Instr.push (reqData q)] else []) ++
          (if !reqInit q && !reqPop q && !reqPush q then [Instr.nop] else []))) := by
  obtain ⟨hi, hp, hu, hn⟩ := requestRows_fits q
  simp only [decode, requestRows, List.filter_cons, List.filter_nil, hi, hp, hu, hn]
  cases reqInit q <;> cases reqPop q <;> cases reqPush q <;> rfl

end Sys2Proof
end

