-- ==== Sys2Proof/Laws/Adapter.lean ====
section
/-! SUPPORT. What the request word of a cycle beside the consumer asks for, bit by bit. -/

namespace Sys2Proof.Machine

/-- The slots of the word are the three drivers', and its byte the producer's (30_encoding.md R74). -/
theorem Beside.word_slots (b : Beside) (pop : Bool) :
    reqInit (b.word pop) = b.init ∧ reqPop (b.word pop) = pop ∧ reqPush (b.word pop) = b.push.isSome ∧
      ∀ d, b.push = some d → reqData (b.word pop) = d := by
  obtain ⟨i, p⟩ := b
  cases p with
  | none => cases i <;> cases pop <;> simp only [reduceCtorEq, false_implies, implies_true] <;> decide
  | some d =>
    simp only [Option.some.injEq, forall_eq']
    revert d
    cases i <;> cases pop <;> decide

@[simp] theorem Beside.reqInit_word (b : Beside) (pop : Bool) : reqInit (b.word pop) = b.init :=
  (b.word_slots pop).1

@[simp] theorem Beside.reqPop_word (b : Beside) (pop : Bool) : reqPop (b.word pop) = pop :=
  (b.word_slots pop).2.1

@[simp] theorem Beside.reqPush_word (b : Beside) (pop : Bool) :
    reqPush (b.word pop) = b.push.isSome := (b.word_slots pop).2.2.1

/-- Quiet cycles are a bare POP and a NOP. -/
theorem Beside.word_quiet : Beside.word {} true = encode .pop ∧ Beside.word {} false = encode .nop := by
  decide

end Sys2Proof.Machine
end

