-- ==== Sys2Proof/Laws/Config.lean ====
section
/-! SUPPORT. What a well-formed configuration says, and the arithmetic of masking. -/

namespace Sys2Proof

/-- The constraints of 00_scope.md R8, one by one. -/
theorem Params.wellFormed_iff (p : Params) :
    p.wellFormed = true ↔
      (p.n ≠ 0 ∧ p.n &&& (p.n - 1) = 0) ∧ 2 ≤ p.n ∧ p.low < p.high ∧ p.high ≤ p.n ∧ 1 ≤ p.cw := by
  simp [Params.wellFormed, Params.powerOfTwo, and_assoc]

theorem Config.two_le_n (c : Config) : 2 ≤ c.n := ((Params.wellFormed_iff _).1 c.ok).2.1

theorem Config.low_lt_high (c : Config) : c.low < c.high := ((Params.wellFormed_iff _).1 c.ok).2.2.1

theorem Config.high_le_n (c : Config) : c.high ≤ c.n := ((Params.wellFormed_iff _).1 c.ok).2.2.2.1

/-- `N = 2^AW` (10_state.md R21). -/
theorem Config.n_eq_two_pow_aw (c : Config) : c.n = 2 ^ c.aw := by
  obtain ⟨hz, hm⟩ := ((Params.wellFormed_iff _).1 c.ok).1
  obtain ⟨k, hk⟩ := (Nat.and_sub_one_eq_zero_iff_isPowerOfTwo hz).1 hm
  rw [Config.aw, hk, Nat.log2_two_pow]

/-- Masking with `N - 1` is the remainder modulo `N`. -/
theorem Config.and_mask (c : Config) (x : Nat) : x &&& c.mask = x % c.n := by
  rw [Config.mask, c.n_eq_two_pow_aw, Nat.and_two_pow_sub_one_eq_mod]

namespace Machine

/-- A cursor value passes the mask unchanged (10_state.md R21). -/
theorem slotOf_of_lt {c : Config} {x : Nat} (h : x < c.n) : slotOf c x = x := by
  rw [slotOf, c.and_mask, Nat.mod_eq_of_lt h]

theorem slotOf_lt (c : Config) (x : Nat) : slotOf c x < c.n := by
  rw [slotOf, c.and_mask]; exact Nat.mod_lt _ (by have := c.two_le_n; omega)

/-- The advance goes up by one, and from `N - 1` to 0 (10_state.md R23). -/
theorem advance_eq {c : Config} {x : Nat} (h : x < c.n) :
    advance c x = if x + 1 = c.n then 0 else x + 1 := by
  rw [advance, c.and_mask]
  split
  · next e => rw [e, Nat.mod_self]
  · next e => exact Nat.mod_eq_of_lt (by omega)

theorem advance_lt (c : Config) (x : Nat) : advance c x < c.n := slotOf_lt c (x + 1)

/-- Subtraction modulo `N` of two cursor values (00_scope.md R13). -/
theorem distance_eq {c : Config} {a b : Nat} (ha : a < c.n) (hb : b < c.n) :
    distance c a b = if b ≤ a then a - b else a + c.n - b := by
  rw [distance, c.and_mask]
  split
  · next h => rw [show a + c.n - b = (a - b) + c.n by omega, Nat.add_mod_right,
      Nat.mod_eq_of_lt (by omega)]
  · next h => exact Nat.mod_eq_of_lt (by omega)

theorem distance_lt (c : Config) (a b : Nat) : distance c a b < c.n := slotOf_lt c (a + c.n - b)

theorem saturate_le (c : Config) (v : Nat) : saturate c v ≤ c.ovfMax := Nat.min_le_right _ _

end Machine
end Sys2Proof
end

