-- ==== Sys2Proof/Laws/State.lean ====
section
/-! SUPPORT. One lemma per field per named update, so that no later proof unfolds one. -/

namespace Sys2Proof.Machine

section Updates
variable (s : State)

@[simp] theorem State.idleResponse_cfg :
    s.idleResponse.cfg = s.cfg := rfl
@[simp] theorem State.idleResponse_w :
    s.idleResponse.w = s.w := rfl
@[simp] theorem State.idleResponse_r :
    s.idleResponse.r = s.r := rfl
@[simp] theorem State.idleResponse_ovf :
    s.idleResponse.ovf = s.ovf := rfl
@[simp] theorem State.idleResponse_hwm :
    s.idleResponse.hwm = s.hwm := rfl
@[simp] theorem State.idleResponse_mem :
    s.idleResponse.mem = s.mem := rfl
@[simp] theorem State.idleResponse_reqs :
    s.idleResponse.reqs = s.reqs := rfl
@[simp] theorem State.idleResponse_rsp :
    s.idleResponse.rsp = { pushOk := false, popOk := false, ovfEvent := false, popData := Config.unspecified8 s.t } := rfl
@[simp] theorem State.idleResponse_stat :
    s.idleResponse.stat = s.stat := rfl
@[simp] theorem State.idleResponse_t :
    s.idleResponse.t = s.t := rfl

@[simp] theorem State.respondPush_cfg (ok ev : Bool) :
    (s.respondPush ok ev).cfg = s.cfg := rfl
@[simp] theorem State.respondPush_w (ok ev : Bool) :
    (s.respondPush ok ev).w = s.w := rfl
@[simp] theorem State.respondPush_r (ok ev : Bool) :
    (s.respondPush ok ev).r = s.r := rfl
@[simp] theorem State.respondPush_ovf (ok ev : Bool) :
    (s.respondPush ok ev).ovf = s.ovf := rfl
@[simp] theorem State.respondPush_hwm (ok ev : Bool) :
    (s.respondPush ok ev).hwm = s.hwm := rfl
@[simp] theorem State.respondPush_mem (ok ev : Bool) :
    (s.respondPush ok ev).mem = s.mem := rfl
@[simp] theorem State.respondPush_reqs (ok ev : Bool) :
    (s.respondPush ok ev).reqs = s.reqs := rfl
@[simp] theorem State.respondPush_rsp (ok ev : Bool) :
    (s.respondPush ok ev).rsp = { s.rsp with pushOk := ok, ovfEvent := ev } := rfl
@[simp] theorem State.respondPush_stat (ok ev : Bool) :
    (s.respondPush ok ev).stat = s.stat := rfl
@[simp] theorem State.respondPush_t (ok ev : Bool) :
    (s.respondPush ok ev).t = s.t := rfl

@[simp] theorem State.respondPop_cfg (ok : Bool) (d : Byte) :
    (s.respondPop ok d).cfg = s.cfg := rfl
@[simp] theorem State.respondPop_w (ok : Bool) (d : Byte) :
    (s.respondPop ok d).w = s.w := rfl
@[simp] theorem State.respondPop_r (ok : Bool) (d : Byte) :
    (s.respondPop ok d).r = s.r := rfl
@[simp] theorem State.respondPop_ovf (ok : Bool) (d : Byte) :
    (s.respondPop ok d).ovf = s.ovf := rfl
@[simp] theorem State.respondPop_hwm (ok : Bool) (d : Byte) :
    (s.respondPop ok d).hwm = s.hwm := rfl
@[simp] theorem State.respondPop_mem (ok : Bool) (d : Byte) :
    (s.respondPop ok d).mem = s.mem := rfl
@[simp] theorem State.respondPop_reqs (ok : Bool) (d : Byte) :
    (s.respondPop ok d).reqs = s.reqs := rfl
@[simp] theorem State.respondPop_rsp (ok : Bool) (d : Byte) :
    (s.respondPop ok d).rsp = { s.rsp with popOk := ok, popData := d } := rfl
@[simp] theorem State.respondPop_stat (ok : Bool) (d : Byte) :
    (s.respondPop ok d).stat = s.stat := rfl
@[simp] theorem State.respondPop_t (ok : Bool) (d : Byte) :
    (s.respondPop ok d).t = s.t := rfl

@[simp] theorem State.memWrite_cfg (a : Nat) (v : Byte) :
    (s.memWrite a v).cfg = s.cfg := rfl
@[simp] theorem State.memWrite_w (a : Nat) (v : Byte) :
    (s.memWrite a v).w = s.w := rfl
@[simp] theorem State.memWrite_r (a : Nat) (v : Byte) :
    (s.memWrite a v).r = s.r := rfl
@[simp] theorem State.memWrite_ovf (a : Nat) (v : Byte) :
    (s.memWrite a v).ovf = s.ovf := rfl
@[simp] theorem State.memWrite_hwm (a : Nat) (v : Byte) :
    (s.memWrite a v).hwm = s.hwm := rfl
@[simp] theorem State.memWrite_mem (a : Nat) (v : Byte) :
    (s.memWrite a v).mem = Memory.write s.mem (slotOf s.cfg a) v := rfl
@[simp] theorem State.memWrite_reqs (a : Nat) (v : Byte) :
    (s.memWrite a v).reqs = s.reqs := rfl
@[simp] theorem State.memWrite_rsp (a : Nat) (v : Byte) :
    (s.memWrite a v).rsp = s.rsp := rfl
@[simp] theorem State.memWrite_stat (a : Nat) (v : Byte) :
    (s.memWrite a v).stat = s.stat := rfl
@[simp] theorem State.memWrite_t (a : Nat) (v : Byte) :
    (s.memWrite a v).t = s.t := rfl

@[simp] theorem State.advanceR_cfg :
    s.advanceR.cfg = s.cfg := rfl
@[simp] theorem State.advanceR_w :
    s.advanceR.w = s.w := rfl
@[simp] theorem State.advanceR_r :
    s.advanceR.r = advance s.cfg s.r := rfl
@[simp] theorem State.advanceR_ovf :
    s.advanceR.ovf = s.ovf := rfl
@[simp] theorem State.advanceR_hwm :
    s.advanceR.hwm = s.hwm := rfl
@[simp] theorem State.advanceR_mem :
    s.advanceR.mem = s.mem := rfl
@[simp] theorem State.advanceR_reqs :
    s.advanceR.reqs = s.reqs := rfl
@[simp] theorem State.advanceR_rsp :
    s.advanceR.rsp = s.rsp := rfl
@[simp] theorem State.advanceR_stat :
    s.advanceR.stat = s.stat := rfl
@[simp] theorem State.advanceR_t :
    s.advanceR.t = s.t := rfl

@[simp] theorem State.advanceW_cfg :
    s.advanceW.cfg = s.cfg := rfl
@[simp] theorem State.advanceW_w :
    s.advanceW.w = advance s.cfg s.w := rfl
@[simp] theorem State.advanceW_r :
    s.advanceW.r = s.r := rfl
@[simp] theorem State.advanceW_ovf :
    s.advanceW.ovf = s.ovf := rfl
@[simp] theorem State.advanceW_hwm :
    s.advanceW.hwm = s.hwm := rfl
@[simp] theorem State.advanceW_mem :
    s.advanceW.mem = s.mem := rfl
@[simp] theorem State.advanceW_reqs :
    s.advanceW.reqs = s.reqs := rfl
@[simp] theorem State.advanceW_rsp :
    s.advanceW.rsp = s.rsp := rfl
@[simp] theorem State.advanceW_stat :
    s.advanceW.stat = s.stat := rfl
@[simp] theorem State.advanceW_t :
    s.advanceW.t = s.t := rfl

@[simp] theorem State.storeByte_cfg (b : Byte) :
    (s.storeByte b).cfg = s.cfg := rfl
@[simp] theorem State.storeByte_w (b : Byte) :
    (s.storeByte b).w = advance s.cfg s.w := rfl
@[simp] theorem State.storeByte_r (b : Byte) :
    (s.storeByte b).r = s.r := rfl
@[simp] theorem State.storeByte_ovf (b : Byte) :
    (s.storeByte b).ovf = s.ovf := rfl
@[simp] theorem State.storeByte_hwm (b : Byte) :
    (s.storeByte b).hwm = s.hwm := rfl
@[simp] theorem State.storeByte_mem (b : Byte) :
    (s.storeByte b).mem = Memory.write s.mem s.storeSlot b := rfl
@[simp] theorem State.storeByte_reqs (b : Byte) :
    (s.storeByte b).reqs = s.reqs := rfl
@[simp] theorem State.storeByte_rsp (b : Byte) :
    (s.storeByte b).rsp = s.rsp := rfl
@[simp] theorem State.storeByte_stat (b : Byte) :
    (s.storeByte b).stat = s.stat := rfl
@[simp] theorem State.storeByte_t (b : Byte) :
    (s.storeByte b).t = s.t := rfl

@[simp] theorem State.countOverflow_cfg :
    s.countOverflow.cfg = s.cfg := rfl
@[simp] theorem State.countOverflow_w :
    s.countOverflow.w = s.w := rfl
@[simp] theorem State.countOverflow_r :
    s.countOverflow.r = s.r := rfl
@[simp] theorem State.countOverflow_ovf :
    s.countOverflow.ovf = saturate s.cfg (s.ovf + 1) := rfl
@[simp] theorem State.countOverflow_hwm :
    s.countOverflow.hwm = s.hwm := rfl
@[simp] theorem State.countOverflow_mem :
    s.countOverflow.mem = s.mem := rfl
@[simp] theorem State.countOverflow_reqs :
    s.countOverflow.reqs = s.reqs := rfl
@[simp] theorem State.countOverflow_rsp :
    s.countOverflow.rsp = s.rsp := rfl
@[simp] theorem State.countOverflow_stat :
    s.countOverflow.stat = s.stat := rfl
@[simp] theorem State.countOverflow_t :
    s.countOverflow.t = s.t := rfl

@[simp] theorem State.withRequest_cfg (q : RequestWord) :
    (s.withRequest q).cfg = s.cfg := rfl
@[simp] theorem State.withRequest_w (q : RequestWord) :
    (s.withRequest q).w = s.w := rfl
@[simp] theorem State.withRequest_r (q : RequestWord) :
    (s.withRequest q).r = s.r := rfl
@[simp] theorem State.withRequest_ovf (q : RequestWord) :
    (s.withRequest q).ovf = s.ovf := rfl
@[simp] theorem State.withRequest_hwm (q : RequestWord) :
    (s.withRequest q).hwm = s.hwm := rfl
@[simp] theorem State.withRequest_mem (q : RequestWord) :
    (s.withRequest q).mem = s.mem := rfl
@[simp] theorem State.withRequest_reqs (q : RequestWord) :
    (s.withRequest q).reqs = q :: s.reqs := rfl
@[simp] theorem State.withRequest_rsp (q : RequestWord) :
    (s.withRequest q).rsp = s.rsp := rfl
@[simp] theorem State.withRequest_stat (q : RequestWord) :
    (s.withRequest q).stat = s.stat := rfl
@[simp] theorem State.withRequest_t (q : RequestWord) :
    (s.withRequest q).t = s.t := rfl

@[simp] theorem State.beginCycle_cfg :
    s.beginCycle.cfg = s.cfg := rfl
@[simp] theorem State.beginCycle_w :
    s.beginCycle.w = s.w := rfl
@[simp] theorem State.beginCycle_r :
    s.beginCycle.r = s.r := rfl
@[simp] theorem State.beginCycle_ovf :
    s.beginCycle.ovf = s.ovf := rfl
@[simp] theorem State.beginCycle_hwm :
    s.beginCycle.hwm = s.hwm := rfl
@[simp] theorem State.beginCycle_mem :
    s.beginCycle.mem = s.mem := rfl
@[simp] theorem State.beginCycle_reqs :
    s.beginCycle.reqs = s.reqs.tail := rfl
@[simp] theorem State.beginCycle_rsp :
    s.beginCycle.rsp = { pushOk := false, popOk := false, ovfEvent := false, popData := Config.unspecified8 (s.t + 1) } := rfl
@[simp] theorem State.beginCycle_stat :
    s.beginCycle.stat = s.stat := rfl
@[simp] theorem State.beginCycle_t :
    s.beginCycle.t = s.t + 1 := rfl

/-- Everything the watermark set can do (42_push.md R108). -/
theorem State.raiseHwm_eq :
    s.raiseHwm = { s with hwm := s.hwm || decide (s.cfg.high ≤ s.fill) } := by
  unfold State.raiseHwm
  obtain ⟨c, w, r, ovf, hwm, m, q, p, st, t⟩ := s
  cases hwm <;> split <;> simp_all

/-- Everything the watermark clear can do (43_pop.md R122). -/
theorem State.lowerHwm_eq :
    s.lowerHwm = { s with hwm := s.hwm && !decide (s.fill ≤ s.cfg.low) } := by
  unfold State.lowerHwm
  obtain ⟨c, w, r, ovf, hwm, m, q, p, st, t⟩ := s
  cases hwm <;> split <;> simp_all

@[simp] theorem State.raiseHwm_cfg : s.raiseHwm.cfg = s.cfg := by rw [State.raiseHwm_eq]
@[simp] theorem State.raiseHwm_w : s.raiseHwm.w = s.w := by rw [State.raiseHwm_eq]
@[simp] theorem State.raiseHwm_r : s.raiseHwm.r = s.r := by rw [State.raiseHwm_eq]
@[simp] theorem State.raiseHwm_ovf : s.raiseHwm.ovf = s.ovf := by rw [State.raiseHwm_eq]
@[simp] theorem State.raiseHwm_mem : s.raiseHwm.mem = s.mem := by rw [State.raiseHwm_eq]
@[simp] theorem State.raiseHwm_reqs : s.raiseHwm.reqs = s.reqs := by rw [State.raiseHwm_eq]
@[simp] theorem State.raiseHwm_rsp : s.raiseHwm.rsp = s.rsp := by rw [State.raiseHwm_eq]
@[simp] theorem State.raiseHwm_stat : s.raiseHwm.stat = s.stat := by rw [State.raiseHwm_eq]
@[simp] theorem State.raiseHwm_t : s.raiseHwm.t = s.t := by rw [State.raiseHwm_eq]
@[simp] theorem State.lowerHwm_cfg : s.lowerHwm.cfg = s.cfg := by rw [State.lowerHwm_eq]
@[simp] theorem State.lowerHwm_w : s.lowerHwm.w = s.w := by rw [State.lowerHwm_eq]
@[simp] theorem State.lowerHwm_r : s.lowerHwm.r = s.r := by rw [State.lowerHwm_eq]
@[simp] theorem State.lowerHwm_ovf : s.lowerHwm.ovf = s.ovf := by rw [State.lowerHwm_eq]
@[simp] theorem State.lowerHwm_mem : s.lowerHwm.mem = s.mem := by rw [State.lowerHwm_eq]
@[simp] theorem State.lowerHwm_reqs : s.lowerHwm.reqs = s.reqs := by rw [State.lowerHwm_eq]
@[simp] theorem State.lowerHwm_rsp : s.lowerHwm.rsp = s.rsp := by rw [State.lowerHwm_eq]
@[simp] theorem State.lowerHwm_stat : s.lowerHwm.stat = s.stat := by rw [State.lowerHwm_eq]
@[simp] theorem State.lowerHwm_t : s.lowerHwm.t = s.t := by rw [State.lowerHwm_eq]
@[simp] theorem State.raiseHwm_hwm : s.raiseHwm.hwm = (s.hwm || decide (s.cfg.high ≤ s.fill)) := by
  rw [State.raiseHwm_eq]
@[simp] theorem State.lowerHwm_hwm : s.lowerHwm.hwm = (s.hwm && !decide (s.fill ≤ s.cfg.low)) := by
  rw [State.lowerHwm_eq]

end Updates

@[simp] theorem State.request_withRequest (s : State) (q : RequestWord) :
    (s.withRequest q).request = q := rfl

end Sys2Proof.Machine
end

