-- ==== Sys2Proof/Laws/Cycle.lean ====
section
/-! SUPPORT. What a cycle does, said once: the queries first, then the requested operations. -/

namespace Sys2Proof.Machine

@[simp] theorem runLine_nil (s : State) : runLine [] s = .next s := rfl

theorem runLine_cons_next {i : Instr} {rest : Line} {s s' : State} (h : exec i s = .next s') :
    runLine (i :: rest) s = runLine rest s' := by
  simp [runLine, h]

theorem runLine_append_next {l m : Line} {s s' : State} (h : runLine l s = .next s') :
    runLine (l ++ m) s = runLine m s' := by
  induction l generalizing s with
  | nil => simp_all [runLine]
  | cons i rest ih =>
    simp only [List.cons_append, runLine] at h ⊢
    cases e : exec i s with
    | next s1 => simp only [e] at h ⊢; exact ih h
    | fault f => simp [e] at h
    | refused f => simp [e] at h

/-- The state the requested operations of a cycle act on: the start-of-cycle state, the response ports
idle, the status ports showing it. -/
def State.sampled (s : State) : State := { s.beginCycle with stat := s.snapshot }

/-- The five queries together drive the status ports from the state they are performed on. -/
theorem runLine_queryLine (s : State) : runLine queryLine s = .next { s with stat := s.snapshot } := rfl

/-- A cycle: the decoded operations of its request word, on the sampled state (45_cycle.md R140). -/
theorem step_eq (s : State) : step s = runLine (decode s.request) s.sampled := by
  rw [step, performCycle, runLine_append_next (runLine_queryLine s.beginCycle)]
  rfl

end Sys2Proof.Machine
end

