-- ==== Sys2Proof/Laws/Exec.lean ====
section
/-! SUPPORT. Everything PUSH, POP and INIT can answer, said once, so that no later proof unfolds them. -/

namespace Sys2Proof.Machine

/-- The three ways a PUSH ends (42_push.md R107 to R110). -/
theorem execPush_cases {s u : State} {b : Byte} (h : exec (.push b) s = .next u) :
    (s.isFull = false ∧ u = (s.storeByte b).raiseHwm.respondPush true false) ∨
    (s.isFull = true ∧ s.cfg.policy = .dropNewest ∧ u = s.countOverflow.respondPush false true) ∨
    (s.isFull = true ∧ s.cfg.policy = .overwriteOldest ∧
      u = (s.countOverflow.advanceR.storeByte b).respondPush true true) := by
  simp only [exec, execPush] at h
  split at h
  · next full => split at h <;> next hp => cases h; simp [full, hp]
  · next room => cases h; simp [room]

/-- The two ways a POP ends (43_pop.md R121 to R123). -/
theorem execPop_cases {s u : State} (h : exec .pop s = .next u) :
    (s.isEmpty = true ∧ u = s.respondPop false (Config.unspecified8 s.t)) ∨
    (s.isEmpty = false ∧ u = s.advanceR.lowerHwm.respondPop true s.oldest) := by
  simp only [exec, execPop] at h
  split at h
  · next e => cases h; simp [e]
  · next ne => cases h; simp [ne]

/-- What INIT answers (40_init_nop.md R90). -/
theorem execInit_next {s u : State} (h : exec .init s = .next u) :
    u = { s with w := 0, r := 0, ovf := 0, hwm := false } := by
  cases h; rfl

/-- No operation changes the configuration (00_scope.md R8). -/
theorem exec_keeps_cfg {i : Instr} {s u : State} (h : exec i s = .next u) : u.cfg = s.cfg := by
  cases i with
  | push b => rcases execPush_cases h with ⟨-, rfl⟩ | ⟨-, -, rfl⟩ | ⟨-, -, rfl⟩ <;> simp
  | pop => rcases execPop_cases h with ⟨-, rfl⟩ | ⟨-, rfl⟩ <;> simp
  | nop => cases h; rfl
  | init => cases h; rfl
  | isEmpty => cases h; rfl
  | isFull => cases h; rfl
  | level => cases h; rfl
  | capacity => cases h; rfl
  | status => cases h; rfl

end Sys2Proof.Machine
end

