-- ==== Sys2Proof/Laws/PerInstr.lean ====
section
/-! SUPPORT. Statements made of each instruction: the decoder gives a request operation back from its
canonical word (30_encoding.md R75, R76). A query has no request bit (R77). -/

namespace Sys2Proof.Laws.RoundTrip

/-- A request operation, with every operand, survives encoding and decoding. -/
def Statement (i : Instr) : Prop := i.isRequest = true → decode (encode i) = [i]

theorem nop : Statement .nop := by unfold Statement; decide

theorem init : Statement .init := by unfold Statement; decide

theorem pop : Statement .pop := by unfold Statement; decide

theorem push (b : Byte) : Statement (.push b) := by unfold Statement; revert b; decide

theorem isEmpty : Statement .isEmpty := by unfold Statement; decide

theorem isFull : Statement .isFull := by unfold Statement; decide

theorem level : Statement .level := by unfold Statement; decide

theorem capacity : Statement .capacity := by unfold Statement; decide

theorem status : Statement .status := by unfold Statement; decide

end Sys2Proof.Laws.RoundTrip
end

