-- ==== Sys2Proof/Laws/Queue.lean ====
section
/-! SUPPORT. What the shared operations do to the level, to the byte in a slot, and to the queue. -/

namespace Sys2Proof.Machine

/-! ### The level -/

theorem State.fill_lt (s : State) : s.fill < s.cfg.n := distance_lt _ _ _

/-- The level without masking, for cursors in range (10_state.md R29). -/
theorem State.fill_eq {s : State} (h : s.Wf) :
    s.fill = if s.r ≤ s.w then s.w - s.r else s.w + s.cfg.n - s.r :=
  distance_eq h.1 h.2.1

/-- The full test without masking (10_state.md R30). -/
theorem State.isFull_iff_next {s : State} (h : s.Wf) :
    s.isFull = true ↔ (if s.w + 1 = s.cfg.n then 0 else s.w + 1) = s.r := by
  simp [State.isFull, advance_eq h.1]

theorem State.isEmpty_iff_cursors (s : State) : s.isEmpty = true ↔ s.w = s.r := by
  simp [State.isEmpty]

/-- With room, the write cursor's advance raises the level by one. -/
theorem fill_of_advanceW {s u : State} (h : s.Wf) (room : s.isFull = false) (hc : u.cfg = s.cfg)
    (hw : u.w = advance s.cfg s.w) (hr : u.r = s.r) : u.fill = s.fill + 1 := by
  have two := s.cfg.two_le_n
  have nf := (State.isFull_iff_next h).not.1 (by simp [room])
  have f := State.fill_eq h
  obtain ⟨ltw, ltr, -⟩ := h
  rw [State.fill, hc, hw, hr, distance_eq (advance_lt _ _) ltr, advance_eq ltw, f]
  split <;> split <;> split <;> split at nf <;> omega

/-- With a byte to read, the read cursor's advance lowers the level by one. -/
theorem fill_of_advanceR {s u : State} (h : s.Wf) (some : s.isEmpty = false) (hc : u.cfg = s.cfg)
    (hw : u.w = s.w) (hr : u.r = advance s.cfg s.r) : u.fill + 1 = s.fill := by
  have ne := s.isEmpty_iff_cursors.not.1 (by simp [some])
  have f := State.fill_eq h
  obtain ⟨ltw, ltr, -⟩ := h
  rw [State.fill, hc, hw, hr, distance_eq ltw (advance_lt _ _), advance_eq ltr, f]
  split <;> split <;> split <;> omega

/-! ### Slots -/

theorem slotOf_add {c : Config} {a k : Nat} (ha : a < c.n) (hk : k ≤ c.n) :
    slotOf c (a + k) = if a + k < c.n then a + k else a + k - c.n := by
  rw [slotOf, c.and_mask]
  split
  · next h => exact Nat.mod_eq_of_lt h
  · next h => rw [Nat.mod_eq_sub_mod (by omega), Nat.mod_eq_of_lt (by omega)]

/-- The slot after the last live byte is the one the write cursor points at. -/
theorem slot_after_queue {s : State} (h : s.Wf) : slotOf s.cfg (s.r + s.fill) = s.w := by
  have lt := s.fill_lt
  rw [slotOf_add h.2.1 (by omega), State.fill_eq h]
  obtain ⟨ltw, ltr, -⟩ := h
  split <;> split <;> omega

/-- The write cursor's slot is not one of the live ones, nor, with room, the one after it. -/
theorem live_slot_ne_w {s : State} (h : s.Wf) {k : Nat} (hk : k < s.fill) :
    slotOf s.cfg (s.r + k) ≠ s.w := by
  have lt := s.fill_lt
  rw [slotOf_add h.2.1 (by omega)]
  rw [State.fill_eq h] at hk
  obtain ⟨ltw, ltr, -⟩ := h
  split <;> split at hk <;> omega

theorem memRead_of_write_same {s u : State} {m : Memory} {a : Nat} {b : Byte} (hc : u.cfg = s.cfg)
    (hm : u.mem = Memory.write m (slotOf s.cfg a) b) : u.memRead a = b := by
  simp [State.memRead, hc, hm, Memory.read_write_same]

theorem memRead_of_write_other {s u : State} {a x : Nat} {b : Byte} (hc : u.cfg = s.cfg)
    (hm : u.mem = Memory.write s.mem (slotOf s.cfg a) b) (h : slotOf s.cfg x ≠ slotOf s.cfg a) :
    u.memRead x = s.memRead x := by
  simp [State.memRead, hc, hm, Memory.read_write_other _ _ h]

/-! ### The queue -/

@[simp] theorem State.length_queue (s : State) : s.queue.length = s.fill := by simp [State.queue]

/-- The queue is a function of the configuration, the cursors and storage alone. -/
theorem queue_congr {s u : State} (hc : u.cfg = s.cfg) (hw : u.w = s.w) (hr : u.r = s.r)
    (hm : u.mem = s.mem) : u.queue = s.queue := by
  simp [State.queue, State.fill, State.memRead, hc, hw, hr, hm]

/-- With room, storing at the write cursor puts the byte at the tail of the queue. -/
theorem queue_of_storeByte {s u : State} {b : Byte} (h : s.Wf) (room : s.isFull = false)
    (hc : u.cfg = s.cfg) (hw : u.w = advance s.cfg s.w) (hr : u.r = s.r)
    (hm : u.mem = Memory.write s.mem s.storeSlot b) : u.queue = s.queue ++ [b] := by
  rw [State.queue, fill_of_advanceW h room hc hw hr, List.range_succ, List.map_append, State.queue]
  congr 1
  · refine List.map_congr_left fun k hk => ?_
    rw [hr]
    refine memRead_of_write_other (a := s.w) hc hm ?_
    rw [slotOf_of_lt h.1]
    exact live_slot_ne_w h (by simpa using hk)
  · simp [hr, State.memRead, hc, hm, slot_after_queue h, State.storeSlot, slotOf_of_lt h.1,
      Memory.read_write_same]

/-- With a byte to read, advancing the read cursor takes the head off the queue. -/
theorem queue_of_advanceR {s u : State} (h : s.Wf) (some : s.isEmpty = false) (hc : u.cfg = s.cfg)
    (hw : u.w = s.w) (hr : u.r = advance s.cfg s.r) (hm : u.mem = s.mem) :
    s.queue = s.memRead s.r :: u.queue := by
  have up := fill_of_advanceR h some hc hw hr
  have lt := s.fill_lt
  have ltr := h.2.1
  rw [State.queue, ← up, List.range_succ_eq_map, List.map_cons, List.map_map, State.queue]
  congr 1
  refine List.map_congr_left fun k hk => ?_
  have hk : k < u.fill := by simpa using hk
  have same : slotOf s.cfg (s.r + k.succ) = slotOf s.cfg (advance s.cfg s.r + k) := by
    rw [slotOf_add ltr (by omega), slotOf_add (advance_lt _ _) (by omega), advance_eq ltr]
    split <;> split <;> split <;> omega
  simp only [Function.comp, State.memRead, hc, hm, hr, same]

end Sys2Proof.Machine
end

