-- ==== Sys2Proof/Tests/Slice0.lean ====
section
/-! SUPPORT. Tests: ill-formed terms refused, words decoded, one cycle each from the spec's own vectors
(95_test_vectors.md; the vector's name is in each comment), and for each statement with hypotheses a
concrete state that meets them. -/

namespace Sys2Proof.Tests

open Sys2Proof Sys2Proof.Machine

/-! ### Well-formedness: each check refuses an ill-formed term -/

theorem test_line_empty : Line.wellFormed [] = false := by decide
theorem test_line_query : Line.wellFormed [.isFull] = false := by decide
theorem test_line_order : Line.wellFormed [.push 0x55#8, .pop] = false := by decide
theorem test_line_repeat : Line.wellFormed [.pop, .pop] = false := by decide
theorem test_line_nop_bundled : Line.wellFormed [.init, .nop] = false := by decide
theorem test_line_full : Line.wellFormed [.init, .pop, .push 0x99#8] = true := by decide

/-- Each check of 00_scope.md R9 at the value next to a legal one. -/
theorem test_params_refused :
    (Params.wellFormed ⟨6, 3, 1, .dropNewest, 8⟩ = false ∧ Params.wellFormed ⟨0, 3, 1, .dropNewest, 8⟩ = false) ∧
    Params.wellFormed ⟨1, 1, 0, .dropNewest, 8⟩ = false ∧ Params.wellFormed ⟨4, 2, 2, .dropNewest, 8⟩ = false ∧
    Params.wellFormed ⟨4, 5, 2, .dropNewest, 8⟩ = false ∧ Params.wellFormed ⟨4, 3, 2, .dropNewest, 0⟩ = false ∧
    Params.wellFormed ⟨2, 2, 0, .overwriteOldest, 1⟩ = true := by decide

/-! ### Decoding: words written out from 30_encoding.md R74 -/

/-- Bit 10 alone; 0x4A5 has the ignored bits set (95_test_vectors.md section 2.3). -/
theorem test_decode_init : decode 0b10000000000#11 = [.init] ∧ decode 0x4A5#11 = [.init] := by decide
/-- Bits 10 to 8 clear; 0x0FF has the ignored bits set. -/
theorem test_decode_nop : decode 0b00000000000#11 = [.nop] ∧ decode 0x0FF#11 = [.nop] := by decide
/-- Bit 9 alone; 0x2FF has the ignored bits set. -/
theorem test_decode_pop : decode 0b01000000000#11 = [.pop] ∧ decode 0x2FF#11 = [.pop] := by decide
/-- Bit 8, and the byte 0x9A: its bit 7 is bit 7 of the word. -/
theorem test_decode_push : decode 0b00110011010#11 = [.push 0x9A#8] := by decide
/-- A query has no request bit (R77). -/
theorem test_decode_query : ∀ q : RequestWord, Instr.isFull ∉ decode q := by decide
theorem test_decode_too_wide : decodeTableWord 16 0x800 = none ∧ decodeTableWord 16 0x141 = some (.push 0x41#8) := by
  decide
/-- The example lines of R81. -/
theorem test_line_text : lineText (decode 0x141#11) = "PUSH 0x41" ∧
    lineText (decode 0x355#11) = "POP | PUSH 0x55" ∧ lineText (decode 0x7FA#11) = "INIT | POP | PUSH 0xFA" := by
  decide

/-! ### States for the tests -/

def cfg4 : Config := ⟨⟨4, 3, 1, .dropNewest, 8⟩, rfl⟩
def cfg4o : Config := ⟨⟨4, 3, 1, .overwriteOldest, 8⟩, rfl⟩
def cfg8 : Config := ⟨⟨8, 6, 2, .dropNewest, 16⟩, rfl⟩
def cfg8o : Config := ⟨⟨8, 6, 2, .overwriteOldest, 16⟩, rfl⟩
def cfg4s : Config := ⟨⟨4, 3, 1, .dropNewest, 2⟩, rfl⟩
def cfg2o : Config := ⟨⟨2, 1, 0, .overwriteOldest, 1⟩, rfl⟩
def cfg4h : Config := ⟨⟨4, 4, 0, .dropNewest, 8⟩, rfl⟩
/-- `HIGH = LOW + 1`. -/
def cfg4n : Config := ⟨⟨4, 2, 1, .dropNewest, 16⟩, rfl⟩
def cfg1024 : Config := ⟨⟨1024, 6, 2, .dropNewest, 16⟩, rfl⟩
def cfg16 : Config := ⟨⟨16, 6, 2, .dropNewest, 16⟩, rfl⟩

/-- A block with its cursors, counter and flag as given, every slot `i` holding `base + i`. -/
def blk (c : Config) (w r ovf : Nat) (hwm : Bool) (base : Nat) : State :=
  { State.resetOf c with
    w := w, r := r, ovf := ovf, hwm := hwm
    mem := (List.range c.n).map (fun i => (i, BitVec.ofNat 8 (base + i))) }

/-- The operation or cycle answers a next state, and that state satisfies `p`. -/
def ends (o : Outcome) (p : State → Bool) : Bool :=
  match o with
  | .next u => p u
  | .fault _ => false
  | .refused _ => false

/-- One cycle with a request word. -/
def cyc (s : State) (q : RequestWord) : Outcome := step (s.withRequest q)

/-- The four control fields after a cycle, and the responses push_ok, pop_ok, ovf_event. -/
def lands (o : Outcome) (w r ovf : Nat) (hwm push pop ev : Bool) : Bool :=
  ends o (fun u => decide (u.w = w ∧ u.r = r ∧ u.ovf = ovf ∧ u.hwm = hwm) &&
    decide (u.rsp.pushOk = push ∧ u.rsp.popOk = pop ∧ u.rsp.ovfEvent = ev))

/-! ### One cycle each, 95_test_vectors.md section 2 -/

/-- I1. -/
theorem test_init : lands (cyc (blk cfg4 2 1 5 true 0xA0) 0x400#11) 0 0 0 false false false false = true ∧
    ends (cyc (blk cfg4 2 1 5 true 0xA0) 0x400#11) (fun u => u.mem == (blk cfg4 0 0 0 false 0xA0).mem) = true := by
  decide
/-- Z1. -/
theorem test_nop : lands (cyc (blk cfg4 2 1 5 true 0xA0) 0x000#11) 2 1 5 true false false false = true := by
  decide
/-- U5: the write cursor wraps from 7 to 0, the level goes 5 to 6 and sets the flag. -/
theorem test_push_store : lands (cyc (blk cfg8 7 2 3 false 0xB0) 0x145#11) 0 2 3 true true false false = true ∧
    ends (cyc (blk cfg8 7 2 3 false 0xB0) 0x145#11) (fun u => u.memRead 7 == 0x45#8) = true := by decide
/-- U9 (displacing, the read cursor wraps) and U10 (dropped, the counter saturated). -/
theorem test_push_full : lands (cyc (blk cfg8o 6 7 0 true 0xB0) 0x149#11) 7 0 1 true true false true = true ∧
    ends (cyc (blk cfg8o 6 7 0 true 0xB0) 0x149#11)
      (fun u => u.memRead 6 == 0x49#8 && u.memRead 7 == 0xB7#8) = true ∧
    lands (cyc (blk cfg4s 3 0 3 true 0xA0) 0x14A#11) 3 0 3 true false false true = true := by decide
/-- O4: the read cursor wraps. -/
theorem test_pop_wrap : lands (cyc (blk cfg8 2 7 0 false 0xB0) 0x200#11) 2 0 0 false false true false = true ∧
    ends (cyc (blk cfg8 2 7 0 false 0xB0) 0x200#11) (fun u => u.rsp.popData == 0xB7#8) = true := by decide
/-- O5 and O6 (the flag clears at LOW, not above it), O12 (a failing POP keeps the flag). -/
theorem test_pop_flag : lands (cyc (blk cfg8 6 2 0 true 0xB0) 0x200#11) 6 3 0 true false true false = true ∧
    lands (cyc (blk cfg8 5 2 0 true 0xB0) 0x200#11) 5 3 0 false false true false = true ∧
    lands (cyc (blk cfg8 4 4 0 true 0xB0) 0x200#11) 4 4 0 true false false false = true := by decide
/-- C4, F4 and P10 cycle 3: POP and PUSH together, with room, from full, and clearing then setting the flag. -/
theorem test_pop_push : lands (cyc (blk cfg4 3 1 2 false 0xA0) 0x3EE#11) 0 2 2 false true true false = true ∧
    lands (cyc (blk cfg4 0 1 2 true 0xA0) 0x3EE#11) 1 2 2 true true true false = true ∧
    lands (cyc (blk cfg4n 2 0 0 true 0x01) 0x303#11) 3 1 0 true true true false = true := by decide
/-- E4 and C8. -/
theorem test_pop_push_empty : lands (cyc (blk cfg4 2 2 2 false 0xA0) 0x3EE#11) 3 2 2 false true false false = true ∧
    lands (cyc (blk cfg4 3 1 2 false 0xA0) 0x7EE#11) 1 0 0 false true false false = true := by decide
/-- Section 2.1, rows N = 8: 5 5, 2 5; N = 2: 1 0. -/
theorem test_is_empty : ends (exec .isEmpty (blk cfg8 5 5 0 false 0)) (fun u => u.stat.empty) = true ∧
    ends (exec .isEmpty (blk cfg8 2 5 0 false 0)) (fun u => !u.stat.empty) = true := by decide
/-- Section 2.1, rows N = 8: 7 0 (the wrap), 6 0. -/
theorem test_is_full : ends (exec .isFull (blk cfg8 7 0 0 false 0)) (fun u => u.stat.full) = true ∧
    ends (exec .isFull (blk cfg8 6 0 0 false 0)) (fun u => !u.stat.full) = true := by decide
/-- Section 2.1, rows N = 16: 5 14; N = 8: 0 1. -/
theorem test_level : ends (exec .level (blk cfg16 5 14 0 false 0)) (fun u => u.stat.level == 7) = true ∧
    ends (exec .level (blk cfg8 0 1 0 false 0)) (fun u => u.stat.level == 7) = true := by decide
/-- Section 2.1: CAPACITY reports N, never N - 1. -/
theorem test_capacity : ends (exec .capacity (blk cfg16 5 14 0 false 0)) (fun u => u.stat.capacity == 16) = true := by
  decide
/-- Section 2.1, rows N = 16: 5 14 and N = 1024: 0 1; 44_status.md R136 for the other two ports. -/
theorem test_status : ends (exec .status (blk cfg16 5 14 9 true 0))
      (fun u => u.stat.utilPct == 43 && u.stat.ovfCount == 9 && u.stat.hwmActive) = true ∧
    ends (exec .status (⟨cfg1024, 0, 1, 0, false, [], [], State.reset.rsp, State.reset.stat, 0⟩))
      (fun u => u.stat.utilPct == 99 && u.stat.level == 1023) = true := by decide
/-- Section 2.6: in the cycle of the refused PUSH the ports show the count before it. -/
theorem test_status_lags : ends (cyc (blk cfg4 3 0 0 true 0xA0) 0x1A4#11)
    (fun u => u.stat.full && u.stat.ovfCount == 0 && u.ovf == 1) = true := by decide
/-- The drain answers, with these bytes sent and this end, and its state satisfies `p`. -/
def drains (o : Host.Outcome Drained Fault Refusal) (sent : List Byte) (fin : Bool) (p : State → Bool) : Bool :=
  match o with
  | .next d => d.sent == sent && d.finished == fin && p d.state
  | .fault _ => false
  | .refused _ => false

/-- P3 and P13: A1, A2, A3 drain in order, then a POP fails; the sink blocks for a cycle after the first. -/
theorem test_drain : drains (drainTo [⟨{}, [{}]⟩, {}, {}, {}] [] (blk cfg4 3 0 1 true 0xA1))
    [0xA1#8, 0xA2#8, 0xA3#8] true (fun u => u.w == 3 && u.r == 3 && u.ovf == 1) = true := by decide
/-- P4 cycles 4 to 8 as a drain: 0x44 and 0x55 are pushed in the POP cycles, and the five POPs return 0x11,
0x22, 0x33, 0x44, 0x55. -/
theorem test_drain_beside : drains (drainTo [⟨⟨false, some 0x44#8⟩, []⟩, ⟨⟨false, some 0x55#8⟩, []⟩, {}, {}, {}] []
      (⟨cfg4, 3, 0, 0, true, [(0, 0x11#8), (1, 0x22#8), (2, 0x33#8)], [], State.reset.rsp, State.reset.stat, 0⟩))
    [0x11#8, 0x22#8, 0x33#8, 0x44#8, 0x55#8] false (fun u => u.w == 1 && u.r == 1) = true := by decide

/-! ### Witnesses: each statement's hypotheses are met -/

/-- Run the request words, keeping what was answered. -/
def runWords : List RequestWord → State → Option (Trace × State)
  | [], s => some ([], s)
  | q :: ws, s =>
    match step (s.withRequest q) with
    | .next s' => (runWords ws s').map (fun x => ((q, s'.rsp) :: x.1, x.2))
    | .fault _ => none
    | .refused _ => none

theorem run_of_runWords : ∀ (ws : List RequestWord) (s u : State) (tr : Trace),
    runWords ws s = some (tr, u) → Run s tr u := by
  intro ws
  induction ws with
  | nil => intro s u tr h; cases h; exact .done s
  | cons q ws ih =>
    intro s u tr h
    rw [runWords] at h
    split at h
    · next s' e =>
      cases g : runWords ws s' with
      | none => simp [g] at h
      | some x => rw [g] at h; cases h; exact .cycle e (ih s' _ _ g)
    · cases h
    · cases h

/-- The words run from `s`, and what they leave satisfies `p`. -/
def runs (ws : List RequestWord) (s : State) (p : Trace → State → Bool) : Bool :=
  match runWords ws s with
  | some x => p x.1 x.2
  | none => false

theorem exists_run {ws : List RequestWord} {s : State} {p : Trace → State → Bool}
    (h : runs ws s p = true) : ∃ tr u, Run s tr u ∧ p tr u = true := by
  rw [runs] at h
  split at h
  · next x e => exact ⟨x.1, x.2, run_of_runWords ws s x.2 x.1 e, h⟩
  · cases h

theorem witness_reset : State.reset.Wf ∧ State.reset.Inv ∧ (State.resetOf cfg2o).Inv := by decide

/-- Parameters at the edge of each constraint, and parameters that break the first or the last of them. -/
theorem witness_BuildAcceptsExactlyWellFormedParameters :
    (∃ c, buildConfig ⟨2, 2, 0, .overwriteOldest, 1⟩ = .ok c) ∧
    (∃ e, buildConfig ⟨6, 3, 1, .dropNewest, 8⟩ = .error e) ∧ ∃ e, buildConfig ⟨4, 3, 1, .dropNewest, 0⟩ = .error e :=
  ⟨⟨_, rfl⟩, ⟨_, rfl⟩, ⟨_, rfl⟩⟩

theorem witness_BuildErrorNamesABrokenConstraint :
    buildConfig ⟨6, 3, 1, .dropNewest, 8⟩ = .error .notPowerOfTwo ∧
    buildConfig ⟨1, 1, 0, .dropNewest, 8⟩ = .error .tooFewSlots ∧
    buildConfig ⟨4, 2, 2, .dropNewest, 8⟩ = .error .thresholdOrder ∧
    buildConfig ⟨4, 5, 2, .dropNewest, 8⟩ = .error .thresholdTooHigh ∧
    buildConfig ⟨4, 3, 2, .dropNewest, 0⟩ = .error .noCounterBits := ⟨rfl, rfl, rfl, rfl, rfl⟩

/-- NOP words with the ignored bits at both ends of their range. -/
theorem witness_NopWritesNothing : ∃ tr u, Run (blk cfg4 3 0 2 true 0) tr u ∧
    (∀ x ∈ tr, x.1 &&& 0x700#11 = 0x000#11) ∧ tr.length = 2 := by
  obtain ⟨tr, u, h, p⟩ := exists_run (ws := [0x000#11, 0x0FF#11]) (s := blk cfg4 3 0 2 true 0)
    (p := fun tr _ => decide (∀ x ∈ tr, x.1 &&& 0x700#11 = 0x000#11) && tr.length == 2) (by decide)
  exact ⟨tr, u, h, by simpa using p⟩

theorem witness_InitClearsControlStateOnly : Instr.init ∈ decode 0x600#11 ∧ Instr.init ∉ decode 0x3FF#11 := by
  decide

/-- A POP on an empty and on a full block, and a full block for the third clause. -/
theorem witness_IsEmptyAnswersCursorEquality :
    (blk cfg4 3 0 0 true 0).Wf ∧ (blk cfg4 3 0 0 true 0).isFull = true ∧ (blk cfg4 3 3 0 false 0).Wf ∧
    reqInit 0x2FF#11 = false ∧ reqPop 0x2FF#11 = true ∧
    ends (cyc (blk cfg4 3 3 0 false 0) 0x2FF#11) (fun u => !u.rsp.popOk && u.stat.empty) = true ∧
    ends (cyc (blk cfg4 3 0 0 true 0) 0x2FF#11) (fun u => u.rsp.popOk && !u.stat.empty) = true := by decide

/-- A PUSH that overflows, one that does not, and one beside a successful POP on a full block. -/
theorem witness_IsFullAnswersNextWriteIsRead :
    (blk cfg4 3 0 0 true 0).Wf ∧ (blk cfg4 2 0 0 false 0).Wf ∧
    reqInit 0x100#11 = false ∧ reqPush 0x100#11 = true ∧ reqInit 0x300#11 = false ∧ reqPush 0x300#11 = true ∧
    ends (cyc (blk cfg4 3 0 0 true 0) 0x100#11) (fun u => !u.rsp.popOk && u.rsp.ovfEvent) = true ∧
    ends (cyc (blk cfg4 2 0 0 false 0) 0x100#11) (fun u => !u.rsp.popOk && !u.rsp.ovfEvent) = true ∧
    ends (cyc (blk cfg4 3 0 0 true 0) 0x300#11) (fun u => u.rsp.popOk && !u.rsp.ovfEvent && u.stat.full) = true := by
  decide

/-- Cursors in range: equal, full by wrap, full without, at the top of the range. -/
theorem witness_LevelAnswersCursorDifferenceModN :
    (blk cfg8 0 7 0 false 0).Wf ∧ (blk cfg8 7 0 0 true 0).Wf ∧ (blk cfg8 7 7 0 false 0).Wf ∧
    (blk cfg8 0 7 0 false 0).fill = 1 ∧ (blk cfg8 7 0 0 true 0).fill = 7 := by decide

theorem witness_CapacityAnswersN : ends (step (blk cfg4 3 0 0 true 0)) (fun u => u.stat.capacity == 4) = true := by
  decide

theorem witness_ReservedSlotSeparatesFullFromEmpty :
    (blk cfg2o 1 0 1 true 0).Wf ∧ (blk cfg2o 1 0 1 true 0).isFull = true ∧
    (blk cfg2o 1 1 1 false 0).Wf ∧ (blk cfg2o 1 1 1 false 0).isEmpty = true ∧ 0 < (blk cfg2o 1 0 1 true 0).fill := by
  decide

/-- A cursor at `N - 1`, one below, and an operation that leaves it. -/
theorem witness_CursorsMoveByOneOrNotAtAll :
    (blk cfg4o 3 0 0 true 0).Wf ∧ (blk cfg4o 2 3 0 true 0).Wf ∧
    ends (exec (.push 0x01#8) (blk cfg4o 3 0 0 true 0)) (fun u => u.w == 0 && u.r == 1) = true ∧
    ends (exec .pop (blk cfg4o 2 3 0 true 0)) (fun u => u.w == 2 && u.r == 0) = true := by decide

/-- Room from the empty buffer up to the last free slot. -/
theorem witness_PushWithRoomStoresAtWriteCursor :
    (blk cfg4 0 0 0 false 0).Wf ∧ (blk cfg4 0 0 0 false 0).isFull = false ∧
    (blk cfg4 3 1 0 false 0).Wf ∧ (blk cfg4 3 1 0 false 0).isFull = false := by decide

theorem witness_PushOnFullDropsTheNewest :
    (blk cfg4 3 0 0 true 0).isFull = true ∧ cfg4.policy = .dropNewest ∧
    (blk cfg4 0 1 255 true 0).isFull = true := by decide

theorem witness_PushOnFullOverwritesTheOldest :
    (blk cfg4o 3 0 0 true 0).Wf ∧ (blk cfg4o 3 0 0 true 0).isFull = true ∧ cfg4o.policy = .overwriteOldest ∧
    (blk cfg2o 0 1 1 true 0).Wf ∧ (blk cfg2o 0 1 1 true 0).isFull = true := by decide

/-- Not full; full one below the counter's maximum; full at it. -/
theorem witness_PushCountsOverflowExactlyWhenFull :
    ((blk cfg4s 2 0 3 false 0).Wf ∧ (blk cfg4s 2 0 3 false 0).isFull = false) ∧
    ((blk cfg4s 3 0 2 true 0).Wf ∧ (blk cfg4s 3 0 2 true 0).isFull = true) ∧
    ((blk cfg4s 3 0 3 true 0).Wf ∧ (blk cfg4s 3 0 3 true 0).isFull = true) ∧ 2 ^ cfg4s.cw - 1 = 3 ∧
    ends (exec (.push 0xFF#8) (blk cfg4s 3 0 2 true 0)) (fun u => u.ovf == 3) = true := by decide

theorem witness_PushOkMeansTheByteIsStored :
    (blk cfg4 3 0 0 true 0).Wf ∧ (blk cfg4o 3 0 0 true 0).Wf ∧
    ends (exec (.push 0xFF#8) (blk cfg4 3 0 0 true 0)) (fun u => !u.rsp.pushOk) = true ∧
    ends (exec (.push 0xFF#8) (blk cfg4o 3 0 0 true 0)) (fun u => u.rsp.pushOk) = true := by decide

theorem witness_PopReturnsTheOldestByte :
    (blk cfg4 1 0 0 false 0).Wf ∧ (blk cfg4 1 0 0 false 0).isEmpty = false ∧
    (blk cfg4 2 3 0 true 0).Wf ∧ (blk cfg4 2 3 0 true 0).isEmpty = false := by decide

theorem witness_PopOnEmptyChangesNothing : (blk cfg4 3 3 0 true 0).isEmpty = true := by decide

/-- The PUSH that reaches `HIGH`, the POP that reaches `LOW`, and an operation of no slot. -/
theorem witness_WatermarkFlagChangesOnlyAtThresholds :
    (blk cfg4 2 0 0 false 0).Inv ∧ (blk cfg4 2 0 0 true 0).Inv ∧ Instr.status.slot = none ∧
    ends (exec (.push 0x01#8) (blk cfg4 2 0 0 false 0)) (fun u => u.hwm) = true ∧
    ends (exec .pop (blk cfg4 2 0 0 true 0)) (fun u => !u.hwm) = true ∧
    ends (exec .init (blk cfg4 2 0 0 true 0)) (fun u => !u.hwm) = true := by decide

/-- `HIGH = N` is legal; the PUSH that fills the buffer leaves the flag clear. -/
theorem witness_ThresholdAtNNeverSetsTheFlag :
    ((blk cfg4h 2 0 0 false 0).withRequest 0x14D#11).Wf ∧ cfg4h.high = cfg4h.n ∧
    ends (cyc (blk cfg4h 2 0 0 false 0) 0x14D#11) (fun u => !u.hwm && u.isFull) = true := by decide

theorem witness_OverflowCounterFallsOnlyByInit :
    (blk cfg4s 3 0 2 true 0).Wf ∧ reqInit 0x1FF#11 = false ∧
    ends (exec .init (blk cfg4s 3 0 2 true 0)) (fun u => u.ovf == 0) = true ∧
    ends (exec (.push 0xFF#8) (blk cfg4s 3 0 2 true 0)) (fun u => u.ovf != 2) = true ∧
    ends (cyc (blk cfg4s 3 0 2 true 0) 0x1FF#11) (fun u => u.ovf == 3) = true := by decide

/-- Each query answers, from one state. -/
theorem witness_QueriesWriteOnlyTheirPorts : ∀ i ∈ queryLine,
    ends (exec i (blk cfg4 3 0 2 true 0)) (fun _ => true) = true := by decide

/-- NOP, INIT, POP that fails with the flag set, POP that succeeds with it clear. -/
theorem witness_NonStoringRequestsKeepStorage :
    ends (exec .nop (blk cfg4 3 0 2 true 0)) (fun u => u.r == 0) = true ∧
    ends (exec .init (blk cfg4 3 0 2 true 0)) (fun u => u.w == 0) = true ∧
    (blk cfg4 3 3 0 true 0).isEmpty = true ∧ ends (exec .pop (blk cfg4 3 3 0 true 0)) (fun u => u.hwm) = true ∧
    ends (exec .pop (blk cfg4 1 0 0 false 0)) (fun u => !u.hwm) = true := by decide

/-- Dropped, displacing, stored; and a slot other than the stored one. -/
theorem witness_PushKeepsEveryOtherSlot :
    (blk cfg4 3 0 0 true 0).isFull = true ∧ ends (exec (.push 0x01#8) (blk cfg4 3 0 0 true 0)) (fun _ => true) = true ∧
    (blk cfg4o 3 0 0 true 0).isFull = true ∧ ends (exec (.push 0x01#8) (blk cfg4o 3 0 0 true 0)) (fun _ => true) = true ∧
    (blk cfg4 3 1 0 false 0).isFull = false ∧ ends (exec (.push 0x01#8) (blk cfg4 3 1 0 false 0)) (fun _ => true) = true ∧
    slotOf cfg4 0 ≠ (blk cfg4 3 1 0 false 0).storeSlot := by decide

theorem witness_StepRunsTheDecodedOperations : Instr.isRequest .nop = true ∧ Instr.isRequest .init = true ∧
    Instr.isRequest .pop = true ∧ Instr.isRequest (.push 0xFF#8) = true := by decide

/-- Flag clear just under `HIGH`, flag set just above `LOW`. -/
theorem witness_StatusShowsTheStartOfTheCycle :
    (blk cfg4 2 0 0 false 0).Hysteresis ∧ (blk cfg4 2 0 0 true 0).Hysteresis ∧
    ends (step (blk cfg4 2 0 0 false 0)) (fun u => !u.stat.hwmActive) = true ∧
    ends (step (blk cfg4 2 0 0 true 0)) (fun u => u.stat.hwmActive) = true := by decide

theorem witness_StatusIsIdempotentOverNopCycles : ∃ tr u, Run (blk cfg4 3 0 2 true 0) tr u ∧
    (∀ x ∈ tr, x.1 &&& 0x700#11 = 0x000#11) ∧ tr.length = 2 ∧ ∃ v, step (u.withRequest 0x741#11) = .next v := by
  obtain ⟨tr, u, h, p⟩ := exists_run (ws := [0x000#11, 0x0FF#11]) (s := blk cfg4 3 0 2 true 0)
    (p := fun tr u => decide (∀ x ∈ tr, x.1 &&& 0x700#11 = 0x000#11) && (tr.length == 2 &&
      ends (step (u.withRequest 0x741#11)) (fun _ => true))) (by decide)
  simp only [Bool.and_eq_true, decide_eq_true_eq, beq_iff_eq] at p
  refine ⟨tr, u, h, p.1, p.2.1, ?_⟩
  cases e : step (u.withRequest 0x741#11) with
  | next v => exact ⟨v, rfl⟩
  | fault f => simp [e, ends] at p
  | refused f => simp [e, ends] at p

/-- From empty; from full with the flag set; with room and the flag clear; clearing and setting the flag;
clearing it for good. -/
theorem witness_PopThenPushInOneCycle :
    (reqInit 0x3FF#11 = false ∧ reqPop 0x3FF#11 = true ∧ reqPush 0x3FF#11 = true) ∧
    ((blk cfg4 3 3 0 false 0).Wf ∧ (blk cfg4 3 3 0 false 0).isEmpty = true ∧
      ends (cyc (blk cfg4 3 3 0 false 0) 0x3FF#11) (fun u => u.fill == 1) = true) ∧
    ((blk cfg4 3 0 0 true 0).Inv ∧ (blk cfg4 3 0 0 true 0).isEmpty = false ∧
      ends (cyc (blk cfg4 3 0 0 true 0) 0x3FF#11) (fun u => u.hwm) = true) ∧
    ((blk cfg4 3 1 0 false 0).Inv ∧ ends (cyc (blk cfg4 3 1 0 false 0) 0x3FF#11) (fun u => !u.hwm) = true) ∧
    ((blk cfg4n 2 0 0 true 0).Inv ∧ ends (cyc (blk cfg4n 2 0 0 true 0) 0x3FF#11) (fun u => u.hwm) = true) ∧
    ((blk cfg4 2 0 0 true 0).Inv ∧ ends (cyc (blk cfg4 2 0 0 true 0) 0x3FF#11) (fun u => !u.hwm) = true) :=
  ⟨by decide, by decide, by decide, by decide, by decide, by decide⟩

/-- INIT alone, INIT with POP, INIT with PUSH; `HIGH = 1` and `HIGH > 1`. -/
theorem witness_InitWithOtherRequestsInOneCycle :
    reqInit 0x400#11 = true ∧ reqPush 0x600#11 = false ∧ reqInit 0x7FF#11 = true ∧ reqPush 0x7FF#11 = true ∧
    ends (cyc (blk cfg4 3 0 9 true 0) 0x600#11) (fun u => !u.hwm && u.w == 0) = true ∧
    ends (cyc (blk cfg4 3 0 9 true 0) 0x7FF#11) (fun u => !u.hwm && u.w == 1) = true ∧
    ends (cyc (blk cfg2o 1 0 1 true 0) 0x7FF#11) (fun u => u.hwm && u.w == 1) = true := by decide

/-- A failed POP beside a PUSH, a successful one on a full buffer, an overflow. -/
theorem witness_OverflowSharesItsCycleWithNoPopOrInit :
    (blk cfg2o 1 1 0 false 0).Wf ∧ (blk cfg2o 1 0 0 true 0).Wf ∧ reqPop 0x3FF#11 = true ∧
    ends (cyc (blk cfg2o 1 1 0 false 0) 0x3FF#11) (fun u => !u.rsp.popOk) = true ∧
    ends (cyc (blk cfg2o 1 0 0 true 0) 0x3FF#11) (fun u => u.rsp.popOk) = true ∧
    ends (cyc (blk cfg2o 1 0 0 true 0) 0x1FF#11) (fun u => u.rsp.ovfEvent) = true := by decide

/-- `full` shown and stored beside a POP; `empty` not shown and the POP failed beside INIT; plain cycles. -/
theorem witness_FullAndEmptyPredictOnlyPlainCycles :
    (blk cfg4 3 0 0 true 0).Wf ∧ (blk cfg4o 3 0 0 true 0).Wf ∧
    ends (cyc (blk cfg4 3 0 0 true 0) 0x100#11) (fun u => !u.rsp.pushOk && u.stat.full) = true ∧
    ends (cyc (blk cfg4o 3 0 0 true 0) 0x100#11) (fun u => u.rsp.pushOk && u.stat.full) = true ∧
    ends (cyc (blk cfg4 3 0 0 true 0) 0x3FF#11) (fun u => u.stat.full && u.rsp.popOk && u.rsp.pushOk) = true ∧
    ends (cyc (blk cfg4 3 0 0 true 0) 0x600#11) (fun u => !u.stat.empty && !u.rsp.popOk) = true := by decide

theorem witness_ResponseWordFieldsAndConstraints :
    ends (cyc (blk cfg4 3 0 0 true 0) 0x100#11) (fun u => !u.rsp.pushOk && u.rsp.ovfEvent) = true ∧
    ends (cyc (blk cfg4 2 0 0 false 0) 0x100#11) (fun u => u.rsp.pushOk && !u.rsp.ovfEvent) = true ∧
    ends (cyc (blk cfg4o 3 0 0 true 0) 0x100#11) (fun u => u.rsp.pushOk && u.rsp.ovfEvent) = true := by decide

/-- The same slots asked for with the smallest and the largest byte; POP with and without PUSH. -/
theorem witness_OutputsDoNotDependOnPushData :
    reqInit 0x300#11 = reqInit 0x3FF#11 ∧ reqPop 0x300#11 = reqPop 0x3FF#11 ∧ reqPush 0x300#11 = reqPush 0x3FF#11 ∧
    ends (cyc (blk cfg4 3 0 0 true 0) 0x300#11) (fun u => u.rsp.popOk) = true ∧
    ends (cyc (blk cfg4 3 0 0 true 0) 0x3FF#11) (fun u => u.rsp.popOk) = true ∧
    ends (cyc (blk cfg4 3 0 0 true 0) 0x200#11) (fun u => u.rsp.popOk) = true := by decide

/-- A state of no run (flag set at level 0, counter at its maximum): in range, not invariant. -/
theorem witness_EveryCycleKeepsRegistersInRange :
    ((blk cfg2o 1 1 1 true 0).withRequest 0x7FF#11).Wf ∧ ¬(blk cfg2o 1 1 1 true 0).Inv ∧
    ends (cyc (blk cfg2o 1 1 1 true 0) 0x7FF#11) (fun u => u.w == 1) = true := by decide

theorem witness_EveryCycleKeepsTheInvariants :
    ((blk cfg4o 3 0 0 true 0).withRequest 0x1FF#11).Inv ∧
    ends (cyc (blk cfg4o 3 0 0 true 0) 0x1FF#11) (fun u => u.r == 1) = true := by decide

/-- A run from a state of no run, INIT first, under OVERWRITE_OLDEST with a one-bit counter (P12): a stored
byte, two displacing PUSHes, a POP, and a byte left. -/
theorem witness_since_init_overwrite : ∃ tr u, (blk cfg2o 1 1 1 true 0).Wf ∧
    Run (blk cfg2o 1 1 1 true 0) tr u ∧ tr.SinceInit ∧ tr.displaced = 2 ∧ tr.overflows = 2 ∧ u.ovf = 1 ∧
    tr.popped = [0xCC#8] ∧ 0 < u.fill ∧ u.hwm = true := by
  obtain ⟨tr, u, h, p⟩ := exists_run (ws := [0x400#11, 0x1AA#11, 0x1BB#11, 0x1CC#11, 0x3DD#11])
    (s := blk cfg2o 1 1 1 true 0) (p := fun tr u => (match tr with
      | [] => false
      | x :: rest => decide (reqInit x.1 = true ∧ Trace.NoInit rest)) &&
      decide (tr.displaced = 2 ∧ tr.overflows = 2 ∧ u.ovf = 1 ∧ tr.popped = [0xCC#8] ∧ 0 < u.fill ∧ u.hwm = true))
    (by decide)
  simp only [Bool.and_eq_true, decide_eq_true_eq] at p
  refine ⟨tr, u, by decide, h, ?_, p.2⟩
  cases tr with
  | nil => simp at p
  | cons x rest =>
    have hp := of_decide_eq_true p.1
    exact hp

/-- The same under DROP_NEWEST: three stored, one dropped, one popped. -/
theorem witness_since_init_drop : ∃ tr u, (blk cfg4 1 1 1 true 0).Wf ∧
    Run (blk cfg4 1 1 1 true 0) tr u ∧ tr.SinceInit ∧ cfg4.policy = .dropNewest ∧ tr.displaced = 0 ∧
    tr.overflows = 1 ∧ tr.stored = [0xA1#8, 0xA2#8, 0xA3#8] ∧ tr.popped = [0xA1#8] ∧ u.fill = 2 := by
  obtain ⟨tr, u, h, p⟩ := exists_run (ws := [0x400#11, 0x1A1#11, 0x1A2#11, 0x1A3#11, 0x1A4#11, 0x200#11])
    (s := blk cfg4 1 1 1 true 0) (p := fun tr u => (match tr with
      | [] => false
      | x :: rest => decide (reqInit x.1 = true ∧ Trace.NoInit rest)) &&
      decide (cfg4.policy = .dropNewest ∧ tr.displaced = 0 ∧ tr.overflows = 1 ∧
        tr.stored = [0xA1#8, 0xA2#8, 0xA3#8] ∧ tr.popped = [0xA1#8] ∧ u.fill = 2))
    (by decide)
  simp only [Bool.and_eq_true, decide_eq_true_eq] at p
  refine ⟨tr, u, by decide, h, ?_, p.2⟩
  cases tr with
  | nil => simp at p
  | cons x rest =>
    have hp := of_decide_eq_true p.1
    exact hp

/-- A queue of several bytes and an empty one. -/
theorem witness_EveryOperationActsOnTheQueue :
    (blk cfg4 3 0 0 true 0x10).Wf ∧ (blk cfg4 3 0 0 true 0x10).queue = [0x10#8, 0x11#8, 0x12#8] ∧
    ends (exec .pop (blk cfg4 3 0 0 true 0x10)) (fun u => u.rsp.popOk) = true ∧
    ends (exec .pop (blk cfg4 3 3 0 false 0x10)) (fun u => !u.rsp.popOk) = true := by decide

theorem witness_EveryCycleActsOnTheQueueInOrder :
    (blk cfg4o 3 0 0 true 0x10).Wf ∧ ends (cyc (blk cfg4o 3 0 0 true 0x10) 0x7FF#11) (fun u => u.fill == 1) = true := by
  decide

/-- Two states alike but for the slots outside the queue, and a run of both. -/
theorem witness_SlotsOutsideTheQueueAreNeverObserved :
    let a := blk cfg4 2 1 0 false 0x10
    let b := { a with mem := [(1, 0x11#8), (3, 0x99#8)] }
    a.Wf ∧ b.Wf ∧ a.Agrees b ∧ a.mem ≠ b.mem ∧
    (∃ tr u, Run a tr u ∧ tr.map Prod.fst = [0x200#11, 0x1FF#11]) ∧
    ∃ ts v, Run b ts v ∧ ts.map Prod.fst = [0x200#11, 0x1FF#11] := by
  refine ⟨by decide, by decide, by decide, by decide, ?_, ?_⟩
  · obtain ⟨tr, u, h, p⟩ := exists_run (ws := [0x200#11, 0x1FF#11]) (s := blk cfg4 2 1 0 false 0x10)
      (p := fun tr _ => tr.map Prod.fst == [0x200#11, 0x1FF#11]) (by decide)
    exact ⟨tr, u, h, by simpa using p⟩
  · obtain ⟨tr, u, h, p⟩ := exists_run (ws := [0x200#11, 0x1FF#11])
      (s := { blk cfg4 2 1 0 false 0x10 with mem := [(1, 0x11#8), (3, 0x99#8)] })
      (p := fun tr _ => tr.map Prod.fst == [0x200#11, 0x1FF#11]) (by decide)
    exact ⟨tr, u, h, by simpa using p⟩

theorem witness_DecodeUndoesEncodeOfEveryLine : Line.wellFormed [.nop] = true ∧ Line.wellFormed [.init, .pop] = true ∧
    Line.wellFormed [.init, .push 0xFF#8] = true ∧ Line.wellFormed [.pop, .push 0x00#8] = true := by decide

theorem witness_EncodeUndoesDecodeUpToIgnoredBits : reqPush 0x6FF#11 = false ∧ 0x6FF#11 &&& 0x700#11 = 0x600#11 := by
  decide

/-- A full buffer and the fewest turns that the statement allows, the sink blocking; an empty one, one turn. -/
theorem witness_DrainForwardsTheQueueAndEmptiesIt :
    (blk cfg4 3 0 0 true 0x10).Wf ∧ (∀ d ∈ [⟨{}, [{}, {}]⟩, {}, {}, {}], DrainRound.quiet d = true) ∧
    (blk cfg4 3 0 0 true 0x10).fill < 4 ∧
    (blk cfg4 3 3 0 false 0x10).Wf ∧ (blk cfg4 3 3 0 false 0x10).fill < 1 := by decide

/-- As many bytes as can be stored, and none. -/
theorem witness_RoundTripUpToUsableCapacity :
    (blk cfg4 2 2 7 false 0x10).Wf ∧ (blk cfg4 2 2 7 false 0x10).isEmpty = true ∧
    [0xFF#8, 0x00#8, 0xFF#8].length ≤ cfg4.usable ∧ ([] : List Byte).length ≤ cfg4.usable ∧
    (∀ d ∈ [⟨{}, [{}]⟩, {}, {}, {}], DrainRound.quiet d = true) := by decide

/-- A drain that ends on a failed POP, one that uses its turns up, and one that INIT ends. -/
theorem witness_DrainIsARunThatStopsAtTheFirstFailedPop :
    drains (drainTo [{}, {}] [] (blk cfg4 1 0 0 false 0x10)) [0x10#8] true (fun _ => true) = true ∧
    drains (drainTo [⟨{}, [{}]⟩] [] (blk cfg4 1 0 0 false 0x10)) [0x10#8] false (fun _ => true) = true ∧
    drains (drainTo [⟨⟨true, none⟩, [{}]⟩, {}] [] (blk cfg4 1 0 0 false 0x10)) [] true (fun u => u.r == 0) = true := by
  decide

/-- One byte, and the producer pushing in the POP cycle of one turn and in the last blocked cycle of another. -/
theorem witness_DrainNeedNotEndWhileTheProducerPushes :
    (blk cfg4 1 0 0 false 0x10).Wf ∧ (blk cfg4 1 0 0 false 0x10).isEmpty = false ∧
    (∀ d ∈ [DrainRound.mk ⟨false, some 0x01#8⟩ [], ⟨{}, [{}, ⟨false, some 0x02#8⟩]⟩],
      ∀ b ∈ d.withPop :: d.waits, b.init = false) ∧
    (∀ d ∈ [DrainRound.mk ⟨false, some 0x01#8⟩ [], ⟨{}, [{}, ⟨false, some 0x02#8⟩]⟩],
      ∃ b ∈ d.withPop :: d.waits, b.push.isSome = true) := by decide

end Sys2Proof.Tests
end

section
/-! PROOFS. Building a block from raw parameters (00_scope.md R9): what `buildConfig` answers, and O1. -/

namespace Sys2Proof

/-- The bit test of 00_scope.md R9 says that the number is a power of two. -/
theorem ne_zero_and_and_sub_one_iff_two_pow (n : Nat) :
    (n ≠ 0 ∧ n &&& (n - 1) = 0) ↔ ∃ k, n = 2 ^ k := by
  constructor
  · rintro ⟨hz, hm⟩
    exact (Nat.and_sub_one_eq_zero_iff_isPowerOfTwo hz).1 hm
  · rintro ⟨k, hk⟩
    have hz : n ≠ 0 := hk ▸ (Nat.two_pow_pos k).ne'
    exact ⟨hz, (Nat.and_sub_one_eq_zero_iff_isPowerOfTwo hz).2 ⟨k, hk⟩⟩

/-- The constraints of 00_scope.md R8, the power of two said without the bit test. -/
theorem Params.wellFormed_iff_two_pow (p : Params) :
    p.wellFormed = true ↔
      (∃ k, p.n = 2 ^ k) ∧ 2 ≤ p.n ∧ p.low < p.high ∧ p.high ≤ p.n ∧ 1 ≤ p.cw := by
  rw [Params.wellFormed_iff, ne_zero_and_and_sub_one_iff_two_pow]

theorem buildConfig_of_wellFormed {p : Params} (h : p.wellFormed = true) :
    buildConfig p = .ok ⟨p, h⟩ := dif_pos h

theorem buildConfig_of_not_wellFormed {p : Params} (h : ¬p.wellFormed = true) :
    buildConfig p = .error (p.error?.getD .notPowerOfTwo) := dif_neg h

/-- A configuration that is answered is the one asked for. -/
theorem toParams_of_buildConfig_eq_ok {p : Params} {c : Config} (h : buildConfig p = .ok c) :
    c.toParams = p := by
  by_cases hp : p.wellFormed = true
  · rw [buildConfig_of_wellFormed hp] at h
    cases h
    rfl
  · rw [buildConfig_of_not_wellFormed hp] at h
    cases h

/-- Settles O1: the constraints are `Params.wellFormed`, and `buildConfig` branches on exactly that. -/
theorem buildAcceptsExactlyWellFormedParameters :
    Obligations.BuildAcceptsExactlyWellFormedParameters := by
  intro p good
  have hgood : p.wellFormed = true ↔ good := p.wellFormed_iff_two_pow
  refine ⟨fun h => ?built, fun h => ?refused, fun c => toParams_of_buildConfig_eq_ok,
    ne_zero_and_and_sub_one_iff_two_pow p.n⟩
  case built => exact ⟨_, buildConfig_of_wellFormed (hgood.2 h), rfl⟩
  case refused => exact ⟨_, buildConfig_of_not_wellFormed (mt hgood.1 h)⟩

end Sys2Proof
end

section
/-! PROOFS. The derived values of 10_state.md R29 to R33 on registers in range, and the reset state: O11, O12,
O3. -/

namespace Sys2Proof

theorem Config.n_pos (c : Config) : 0 < c.n := Nat.zero_lt_of_lt c.two_le_n

end Sys2Proof

namespace Sys2Proof.Machine

/-- The advance, with the wrap told by the cursor's last value (10_state.md R23). -/
theorem advance_eq_wrap {c : Config} {x : Nat} (h : x < c.n) :
    advance c x = if x = c.n - 1 then 0 else x + 1 := by
  rw [advance_eq h]
  congr 1
  exact propext (by omega)

@[simp] theorem distance_self (c : Config) (x : Nat) : distance c x x = 0 := by
  rw [distance, c.and_mask, Nat.add_sub_cancel_left, Nat.mod_self]

theorem State.fill_of_cursors_eq {s : State} (h : s.w = s.r) : s.fill = 0 := by
  rw [State.fill, h, distance_self]

theorem State.isEmpty_iff_fill {s : State} (h : s.Wf) : s.isEmpty = true ↔ s.fill = 0 := by
  rw [State.isEmpty_iff_cursors, State.fill_eq h]
  obtain ⟨ltw, ltr, -⟩ := h
  split <;> omega

theorem State.isFull_iff_fill {s : State} (h : s.Wf) : s.isFull = true ↔ s.fill = s.cfg.n - 1 := by
  have two := s.cfg.two_le_n
  rw [State.isFull_iff_next h, State.fill_eq h]
  obtain ⟨ltw, ltr, -⟩ := h
  split <;> split <;> omega

/-- The reserved slot keeps full and empty apart (10_state.md R31). -/
theorem State.isEmpty_eq_false_of_isFull {s : State} (h : s.Wf) (full : s.isFull = true) :
    s.isEmpty = false := by
  have two := s.cfg.two_le_n
  rw [← Bool.not_eq_true, State.isEmpty_iff_fill h, (State.isFull_iff_fill h).1 full]
  omega

/-- With both cursors at 0 there is room: a block has two slots or more (00_scope.md R8). -/
theorem State.isFull_eq_false_of_cursors_zero {s : State} (hw : s.w = 0) (hr : s.r = 0) : s.isFull = false := by
  have two := s.cfg.two_le_n
  rw [State.isFull, hw, hr, advance_eq s.cfg.n_pos, if_neg (by omega)]
  rfl

/-- Settles O11: in range, the level tells full, empty and the live slots apart. -/
theorem reservedSlotSeparatesFullFromEmpty : Obligations.ReservedSlotSeparatesFullFromEmpty := by
  intro s h
  refine ⟨State.isEmpty_iff_fill h, State.isFull_iff_fill h, ?apart, ?bound, fun k => live_slot_ne_w h⟩
  case apart =>
    rintro ⟨empty, full⟩
    simp [State.isEmpty_eq_false_of_isFull h full] at empty
  case bound => exact Nat.le_sub_one_of_lt s.fill_lt

/-- Settles O12: the level is below `N` in every state, and `N = 2^AW`. -/
theorem utilizationIsFlooredAndBelowHundred : Obligations.UtilizationIsFlooredAndBelowHundred := by
  intro s
  refine ⟨rfl, ?below, ?shift⟩
  case below =>
    have lt := s.fill_lt
    exact Nat.le_of_lt_succ (Nat.div_lt_of_lt_mul (by omega))
  case shift => rw [State.util, Nat.shiftRight_eq_div_pow, ← s.cfg.n_eq_two_pow_aw]

/-- The status ports at reset show the state (10_state.md R34, after INIT). -/
theorem State.snapshot_of_cleared {s : State} (hw : s.w = 0) (hr : s.r = 0) (ho : s.ovf = 0)
    (hh : s.hwm = false) : s.snapshot = ⟨true, false, 0, 0, false, 0, s.cfg.n⟩ := by
  simp [State.snapshot, State.util, State.fill_of_cursors_eq (hw.trans hr.symm),
    State.isFull_eq_false_of_cursors_zero hw hr, State.isEmpty, hw, hr, ho, hh]

theorem State.queue_eq_nil_iff (s : State) : s.queue = [] ↔ s.fill = 0 := by
  rw [← List.length_eq_zero_iff, State.length_queue]

/-- Settles O3: both cursors are 0, so the block reads as empty. -/
theorem resetStateHoldsTheValuesAfterInit : Obligations.ResetStateHoldsTheValuesAfterInit := by
  intro c s
  have fill : s.fill = 0 := State.fill_of_cursors_eq rfl
  have snapshot : s.snapshot = ⟨true, false, 0, 0, false, 0, c.n⟩ :=
    State.snapshot_of_cleared rfl rfl rfl rfl
  exact ⟨rfl, rfl, rfl, rfl, rfl, rfl, congrArg Status.full snapshot, fill,
    congrArg Status.utilPct snapshot, snapshot.symm, rfl, s.queue_eq_nil_iff.2 fill⟩

end Sys2Proof.Machine
end

section
/-! PROOFS. What an operation, a cycle and a run can do, said once: the operations outside the slots of a
request word touch the ports alone, a cycle is at most three operations in order, and a predicate that each
operation keeps holds after every cycle and every run. -/

namespace Sys2Proof.Machine

/-- The operations by what they do to the block: three request operations, and those without a slot. -/
theorem slotCases {motive : Instr → Prop} (init : motive .init) (pop : motive .pop)
    (push : ∀ b, motive (.push b)) (slotless : ∀ i : Instr, i.slot = none → motive i) (i : Instr) :
    motive i := by
  cases i with
  | init => exact init
  | pop => exact pop
  | push b => exact push b
  | nop | isEmpty | isFull | level | capacity | status => exact slotless _ rfl

/-- NOP and the queries write ports only (40_init_nop.md R91, 41_queries.md R95). -/
theorem exec_of_slot_none {i : Instr} {s u : State} (hi : i.slot = none) (h : exec i s = .next u) :
    ∃ p st, u = { s with rsp := p, stat := st } := by
  cases i with
  | nop | isEmpty | isFull | level | capacity | status => cases h; exact ⟨_, _, rfl⟩
  | init | pop | push => simp [Instr.slot] at hi

theorem execPop_of_empty {s : State} (h : s.isEmpty = true) :
    exec .pop s = .next (s.respondPop false (Config.unspecified8 s.t)) := by
  simp [exec, execPop, h]

theorem execPop_of_nonempty {s : State} (h : s.isEmpty = false) :
    exec .pop s = .next (s.advanceR.lowerHwm.respondPop true s.oldest) := by
  simp [exec, execPop, h]

theorem execPush_of_room {s : State} (h : s.isFull = false) (b : Byte) :
    exec (.push b) s = .next ((s.storeByte b).raiseHwm.respondPush true false) := by
  simp [exec, execPush, h]

theorem execPush_of_drop {s : State} (h : s.isFull = true) (hp : s.cfg.policy = .dropNewest)
    (b : Byte) : exec (.push b) s = .next (s.countOverflow.respondPush false true) := by
  simp [exec, execPush, h, hp]

theorem execPush_of_displace {s : State} (h : s.isFull = true)
    (hp : s.cfg.policy = .overwriteOldest) (b : Byte) :
    exec (.push b) s = .next ((s.countOverflow.advanceR.storeByte b).respondPush true true) := by
  simp [exec, execPush, h, hp]

/-! ### Lines -/

theorem runLine_cons_eq_next {i : Instr} {rest : Line} {s u : State}
    (h : runLine (i :: rest) s = .next u) : ∃ m, exec i s = .next m ∧ runLine rest m = .next u := by
  rw [runLine] at h
  cases e : exec i s with
  | next m => rw [e] at h; exact ⟨m, rfl, h⟩
  | fault f => simp [e] at h
  | refused f => simp [e] at h

theorem runLine_append_eq_next {l k : Line} {s u : State} (h : runLine (l ++ k) s = .next u) :
    ∃ m, runLine l s = .next m ∧ runLine k m = .next u := by
  induction l generalizing s with
  | nil => exact ⟨s, rfl, h⟩
  | cons i rest ih =>
    obtain ⟨m, hm, hrest⟩ := runLine_cons_eq_next h
    rw [runLine_cons_next hm]
    exact ih hrest

/-- What every operation keeps, every line keeps. -/
theorem runLine_keeps {P : State → Prop}
    (hexec : ∀ {i : Instr} {s u : State}, P s → exec i s = .next u → P u) {l : Line} {s u : State}
    (hs : P s) (h : runLine l s = .next u) : P u := by
  induction l generalizing s with
  | nil => cases h; exact hs
  | cons i rest ih =>
    obtain ⟨m, hm, hrest⟩ := runLine_cons_eq_next h
    exact ih (hexec hs hm) hrest

/-- What every operation keeps, every cycle keeps from the state it samples. -/
theorem step_keeps {P : State → Prop}
    (hexec : ∀ {i : Instr} {s u : State}, P s → exec i s = .next u → P u) {s u : State}
    (hs : P s.sampled) (h : step s = .next u) : P u :=
  runLine_keeps hexec hs (step_eq s ▸ h)

/-- What every cycle keeps, every run keeps. -/
theorem Run.keeps {P : State → Prop}
    (hstep : ∀ {s u : State} {q : RequestWord}, P s → step (s.withRequest q) = .next u → P u)
    {s u : State} {tr : Trace} (hs : P s) (h : Run s tr u) : P u := by
  induction h with
  | done => exact hs
  | cycle first _ ih => exact ih (hstep hs first)

theorem step_keeps_cfg {s u : State} (h : step s = .next u) : u.cfg = s.cfg :=
  step_keeps (P := fun x => x.cfg = s.cfg) (fun hx e => (exec_keeps_cfg e).trans hx) rfl h

theorem step_withRequest_keeps_cfg {s u : State} {q : RequestWord}
    (h : step (s.withRequest q) = .next u) : u.cfg = s.cfg := by
  rw [step_keeps_cfg h, State.withRequest_cfg]

theorem Run.keeps_cfg {s u : State} {tr : Trace} (h : Run s tr u) : u.cfg = s.cfg :=
  h.keeps (P := fun x => x.cfg = s.cfg) (fun hx e => (step_withRequest_keeps_cfg e).trans hx) rfl

/-! ### The stages of a cycle -/

/-- The operation is performed if the request word asks for it, and otherwise nothing happens
(45_cycle.md R140). -/
abbrev Performs (asked : Bool) (i : Instr) (s u : State) : Prop :=
  if asked then exec i s = .next u else u = s

theorem performs_iff {asked : Bool} {i : Instr} {s u : State} :
    Performs asked i s u ↔
      (asked = true ∧ exec i s = .next u) ∨ (asked = false ∧ u = s) := by
  cases asked <;> simp

/-- What every operation keeps, a stage keeps. -/
theorem Performs.keeps {P : State → Prop} {asked : Bool} {i : Instr} {s u : State}
    (h : Performs asked i s u) (hexec : exec i s = .next u → P u) (hs : P s) : P u := by
  rcases performs_iff.1 h with ⟨-, e⟩ | ⟨-, rfl⟩
  · exact hexec e
  · exact hs

theorem performs_of_runLine {asked : Bool} {i : Instr} {s u : State}
    (h : runLine (if asked then [i] else []) s = .next u) : Performs asked i s u := by
  cases asked with
  | false => cases h; rfl
  | true =>
    obtain ⟨m, hm, hnil⟩ := runLine_cons_eq_next h
    cases hnil
    exact hm

/-- A cycle is INIT, POP and PUSH in this order, each if asked for, from the sampled state (45_cycle.md
R140). The NOP of a word that asks for none of them repeats the idle responses. -/
theorem step_stages {s u : State} {q : RequestWord} (h : step (s.withRequest q) = .next u) :
    ∃ s₁ s₂, Performs (reqInit q) .init (s.withRequest q).sampled s₁ ∧
      Performs (reqPop q) .pop s₁ s₂ ∧ Performs (reqPush q) (.push (reqData q)) s₂ u := by
  rw [step_eq, State.request_withRequest, decode_eq] at h
  obtain ⟨s₁, h₁, h⟩ := runLine_append_eq_next h
  obtain ⟨s₂, h₂, h⟩ := runLine_append_eq_next h
  obtain ⟨s₃, h₃, h⟩ := runLine_append_eq_next h
  have p₁ := performs_of_runLine h₁
  have p₂ := performs_of_runLine h₂
  have p₃ := performs_of_runLine h₃
  suffices hu : u = s₃ from ⟨s₁, s₂, p₁, p₂, hu ▸ p₃⟩
  rcases performs_iff.1 (performs_of_runLine h) with ⟨idle, e⟩ | ⟨-, hu⟩
  · simp only [Bool.and_eq_true, Bool.not_eq_true'] at idle
    obtain ⟨⟨noInit, noPop⟩, noPush⟩ := idle
    rw [noInit] at p₁
    rw [noPop] at p₂
    rw [noPush] at p₃
    cases p₁
    cases p₂
    cases p₃
    cases e
    rfl
  · exact hu

end Sys2Proof.Machine
end

section
/-! PROOFS. Registers in range (10_state.md R21) and the watermark and storage invariants (R35), each kept by
the named updates, then by every operation, cycle and run: O39, O13, O38, O40, O21. -/

namespace Sys2Proof.Machine

/-! ### The level under the named updates -/

theorem fill_congr {s u : State} (hc : u.cfg = s.cfg) (hw : u.w = s.w) (hr : u.r = s.r) :
    u.fill = s.fill := by
  rw [State.fill, hc, hw, hr, State.fill]

section Updates
variable (s : State)

@[simp] theorem State.raiseHwm_fill : s.raiseHwm.fill = s.fill := fill_congr (by simp) (by simp) (by simp)
@[simp] theorem State.lowerHwm_fill : s.lowerHwm.fill = s.fill := fill_congr (by simp) (by simp) (by simp)
@[simp] theorem State.respondPush_fill (ok ev : Bool) : (s.respondPush ok ev).fill = s.fill := rfl
@[simp] theorem State.respondPop_fill (ok : Bool) (d : Byte) : (s.respondPop ok d).fill = s.fill := rfl
@[simp] theorem State.countOverflow_fill : s.countOverflow.fill = s.fill := rfl

@[simp] theorem State.raiseHwm_queue : s.raiseHwm.queue = s.queue :=
  queue_congr (by simp) (by simp) (by simp) (by simp)
@[simp] theorem State.lowerHwm_queue : s.lowerHwm.queue = s.queue :=
  queue_congr (by simp) (by simp) (by simp) (by simp)
@[simp] theorem State.respondPush_queue (ok ev : Bool) : (s.respondPush ok ev).queue = s.queue := rfl
@[simp] theorem State.respondPop_queue (ok : Bool) (d : Byte) : (s.respondPop ok d).queue = s.queue := rfl
@[simp] theorem State.countOverflow_queue : s.countOverflow.queue = s.queue := rfl

end Updates

/-! ### Registers in range -/

namespace State.Wf
variable {s : State} (h : s.Wf)
include h

theorem raiseHwm : s.raiseHwm.Wf := by rw [State.raiseHwm_eq]; exact h

theorem lowerHwm : s.lowerHwm.Wf := by rw [State.lowerHwm_eq]; exact h

theorem respondPush (ok ev : Bool) : (s.respondPush ok ev).Wf := h

theorem respondPop (ok : Bool) (d : Byte) : (s.respondPop ok d).Wf := h

theorem countOverflow : s.countOverflow.Wf := by
  obtain ⟨hw, hr, -, hm⟩ := h
  exact ⟨hw, hr, saturate_le _ _, hm⟩

theorem advanceR : s.advanceR.Wf := by
  obtain ⟨hw, -, ho, hm⟩ := h
  exact ⟨hw, advance_lt _ _, ho, hm⟩

theorem storeByte (b : Byte) : (s.storeByte b).Wf := by
  obtain ⟨-, hr, ho, rising, slots⟩ := h
  refine ⟨advance_lt _ _, hr, ho, Memory.write_keeps_wf _ _ rising, fun x hx => ?_⟩
  rcases Memory.slot_of_mem_write hx with e | hx
  · rw [e]; exact slotOf_lt _ _
  · exact slots x hx

theorem fill_storeByte (room : s.isFull = false) (b : Byte) : (s.storeByte b).fill = s.fill + 1 :=
  fill_of_advanceW h room rfl rfl rfl

theorem fill_advanceR (nonempty : s.isEmpty = false) : s.advanceR.fill + 1 = s.fill :=
  fill_of_advanceR h nonempty rfl rfl rfl

/-- Taking a byte off makes room. -/
theorem isFull_advanceR (nonempty : s.isEmpty = false) : s.advanceR.isFull = false := by
  have lower := h.fill_advanceR nonempty
  have lt := s.fill_lt
  rw [← Bool.not_eq_true, State.isFull_iff_fill h.advanceR, State.advanceR_cfg]
  omega

/-- A displacing PUSH finds a byte to displace, and room where it was (42_push.md R109). -/
theorem isFull_displace (full : s.isFull = true) : s.countOverflow.advanceR.isFull = false :=
  h.countOverflow.isFull_advanceR (State.isEmpty_eq_false_of_isFull h.countOverflow full)

/-- A displacing PUSH keeps the level (42_push.md R109). -/
theorem fill_displace (full : s.isFull = true) (b : Byte) :
    (s.countOverflow.advanceR.storeByte b).fill = s.fill :=
  calc (s.countOverflow.advanceR.storeByte b).fill
      = s.countOverflow.advanceR.fill + 1 :=
        h.countOverflow.advanceR.fill_storeByte (h.isFull_displace full) b
    _ = s.fill := h.countOverflow.fill_advanceR (State.isEmpty_eq_false_of_isFull h.countOverflow full)

end State.Wf

/-- Every operation keeps each register in its width and storage canonical (10_state.md R21, R27). -/
theorem exec_keeps_wf {i : Instr} {s u : State} (h : s.Wf) (e : exec i s = .next u) : u.Wf := by
  induction i using slotCases with
  | init =>
    obtain ⟨-, -, -, hm⟩ := h
    rw [execInit_next e]
    exact ⟨s.cfg.n_pos, s.cfg.n_pos, Nat.zero_le _, hm⟩
  | pop =>
    rcases execPop_cases e with ⟨-, rfl⟩ | ⟨-, rfl⟩
    · exact h.respondPop _ _
    · exact h.advanceR.lowerHwm.respondPop _ _
  | push b =>
    rcases execPush_cases e with ⟨-, rfl⟩ | ⟨-, -, rfl⟩ | ⟨-, -, rfl⟩
    · exact (h.storeByte b).raiseHwm.respondPush _ _
    · exact h.countOverflow.respondPush _ _
    · exact (h.countOverflow.advanceR.storeByte b).respondPush _ _
  | slotless i hi => obtain ⟨p, st, rfl⟩ := exec_of_slot_none hi e; exact h

theorem step_keeps_wf {s u : State} (h : s.Wf) (e : step s = .next u) : u.Wf :=
  step_keeps (P := State.Wf) exec_keeps_wf h e

theorem step_withRequest_keeps_wf {s u : State} {q : RequestWord} (h : s.Wf)
    (e : step (s.withRequest q) = .next u) : u.Wf :=
  step_keeps_wf (s := s.withRequest q) h e

theorem Run.keeps_wf {s u : State} {tr : Trace} (run : Run s tr u) (h : s.Wf) : u.Wf :=
  run.keeps (P := State.Wf) step_withRequest_keeps_wf h

theorem Performs.keeps_wf {asked : Bool} {i : Instr} {s u : State} (p : Performs asked i s u)
    (h : s.Wf) : u.Wf := p.keeps (exec_keeps_wf h) h

/-- Settles O39: every operation of the cycle keeps the range. -/
theorem everyCycleKeepsRegistersInRange : Obligations.EveryCycleKeepsRegistersInRange :=
  fun _ _ => step_keeps_wf

/-! ### The cursors -/

/-- Settles O13: a POP that succeeds and a PUSH that displaces advance the read cursor, a PUSH that stores
advances the write cursor. -/
theorem cursorsMoveByOneOrNotAtAll : Obligations.CursorsMoveByOneOrNotAtAll := by
  intro i s u h notInit e
  obtain ⟨hw, hr, -⟩ := h
  rw [← advance_eq_wrap hw, ← advance_eq_wrap hr]
  induction i using slotCases with
  | init => exact absurd rfl notInit
  | pop => rcases execPop_cases e with ⟨-, rfl⟩ | ⟨-, rfl⟩ <;> simp
  | push b => rcases execPush_cases e with ⟨-, rfl⟩ | ⟨-, -, rfl⟩ | ⟨-, -, rfl⟩ <;> simp
  | slotless i hi => obtain ⟨p, st, rfl⟩ := exec_of_slot_none hi e; simp

/-! ### The watermark flag -/

/-- INIT empties the block, and its flag is clear (10_state.md R39). -/
theorem hysteresis_of_cleared {s : State} (fill : s.fill = 0) (flag : s.hwm = false) :
    s.Hysteresis := by
  have low := s.cfg.low_lt_high
  simp only [State.Hysteresis, fill, flag]
  exact ⟨fun _ => by omega, fun e => by cases e⟩

theorem State.raiseHwm_hwm_iff (s : State) :
    s.raiseHwm.hwm = true ↔ s.hwm = true ∨ s.cfg.high ≤ s.fill := by
  rw [State.raiseHwm_hwm, Bool.or_eq_true, decide_eq_true_iff]

theorem State.lowerHwm_hwm_iff (s : State) :
    s.lowerHwm.hwm = true ↔ s.hwm = true ∧ s.cfg.low < s.fill := by
  rw [State.lowerHwm_hwm, Bool.and_eq_true, Bool.not_eq_true', decide_eq_false_iff_not, not_le]

/-- Looking at `HIGH` after the level rose keeps the flag consistent (42_push.md R108). -/
theorem State.Hysteresis.raiseHwm_storeByte {s : State} (hy : s.Hysteresis) (h : s.Wf)
    (room : s.isFull = false) (b : Byte) : (s.storeByte b).raiseHwm.Hysteresis := by
  obtain ⟨-, above⟩ := hy
  have order := s.cfg.low_lt_high
  simp only [State.Hysteresis, ← Bool.not_eq_true, State.raiseHwm_hwm_iff, State.raiseHwm_fill,
    State.raiseHwm_cfg, State.storeByte_cfg, State.storeByte_hwm, h.fill_storeByte room b]
  refine ⟨fun clear => not_le.1 fun high => clear (.inr high), ?_⟩
  rintro (flag | high)
  · exact (above flag).trans (Nat.lt_succ_self _)
  · omega

/-- Looking at `LOW` after the level fell keeps the flag consistent (43_pop.md R122). -/
theorem State.Hysteresis.lowerHwm_advanceR {s : State} (hy : s.Hysteresis) (h : s.Wf)
    (nonempty : s.isEmpty = false) : s.advanceR.lowerHwm.Hysteresis := by
  obtain ⟨below, -⟩ := hy
  have order := s.cfg.low_lt_high
  have down := h.fill_advanceR nonempty
  simp only [State.Hysteresis, ← Bool.not_eq_true, State.lowerHwm_hwm_iff, State.lowerHwm_fill,
    State.lowerHwm_cfg, State.advanceR_cfg, State.advanceR_hwm] at below ⊢
  refine ⟨fun clear => ?_, And.right⟩
  by_cases low : s.cfg.low < s.advanceR.fill
  · have := below fun flag => clear ⟨flag, low⟩
    omega
  · omega

theorem exec_keeps_hysteresis {i : Instr} {s u : State} (h : s.Wf) (hy : s.Hysteresis)
    (e : exec i s = .next u) : u.Hysteresis := by
  induction i using slotCases with
  | init => rw [execInit_next e]; exact hysteresis_of_cleared (State.fill_of_cursors_eq rfl) rfl
  | pop =>
    rcases execPop_cases e with ⟨-, rfl⟩ | ⟨nonempty, rfl⟩
    · exact hy
    · exact hy.lowerHwm_advanceR h nonempty
  | push b =>
    rcases execPush_cases e with ⟨room, rfl⟩ | ⟨-, -, rfl⟩ | ⟨full, -, rfl⟩
    · exact hy.raiseHwm_storeByte h room b
    · exact hy
    · simpa [State.Hysteresis, h.fill_displace full] using hy
  | slotless i hi => obtain ⟨p, st, rfl⟩ := exec_of_slot_none hi e; exact hy

/-! ### Live slots -/

/-- The slots counted from the advanced read cursor are those counted from the old one, one later. -/
theorem slotOf_advance_add (c : Config) (a k : Nat) :
    slotOf c (advance c a + k) = slotOf c (a + (k + 1)) := by
  rw [slotOf, slotOf, advance, c.and_mask, c.and_mask, c.and_mask, Nat.mod_add_mod]
  congr 1
  omega

theorem State.LiveWritten.advanceR {s : State} (live : s.LiveWritten) (h : s.Wf)
    (nonempty : s.isEmpty = false) : s.advanceR.LiveWritten := by
  intro k hk
  have down := h.fill_advanceR nonempty
  rw [State.advanceR_mem, State.advanceR_cfg, State.advanceR_r, slotOf_advance_add]
  exact live (k + 1) (by omega)

/-- The one slot that becomes live is the one written. -/
theorem State.LiveWritten.storeByte {s : State} (live : s.LiveWritten) (h : s.Wf)
    (room : s.isFull = false) (b : Byte) : (s.storeByte b).LiveWritten := by
  intro k hk
  rw [h.fill_storeByte room b] at hk
  rw [State.storeByte_mem, State.storeByte_cfg, State.storeByte_r, State.storeSlot, slotOf_of_lt h.1]
  rcases Nat.lt_succ_iff_lt_or_eq.1 hk with old | rfl
  · rw [Memory.read_write_other _ _ (live_slot_ne_w h old)]
    exact live k old
  · rw [slot_after_queue h, Memory.read_write_same]
    rfl

theorem State.LiveWritten.raiseHwm {s : State} (live : s.LiveWritten) : s.raiseHwm.LiveWritten := by
  rw [State.raiseHwm_eq]; exact live

theorem State.LiveWritten.lowerHwm {s : State} (live : s.LiveWritten) : s.lowerHwm.LiveWritten := by
  rw [State.lowerHwm_eq]; exact live

theorem liveWritten_of_empty {s : State} (fill : s.fill = 0) : s.LiveWritten :=
  fun k hk => absurd hk (by omega)

theorem exec_keeps_liveWritten {i : Instr} {s u : State} (h : s.Wf) (live : s.LiveWritten)
    (e : exec i s = .next u) : u.LiveWritten := by
  induction i using slotCases with
  | init => rw [execInit_next e]; exact liveWritten_of_empty (State.fill_of_cursors_eq rfl)
  | pop =>
    rcases execPop_cases e with ⟨-, rfl⟩ | ⟨nonempty, rfl⟩
    · exact live
    · exact (live.advanceR h nonempty).lowerHwm
  | push b =>
    rcases execPush_cases e with ⟨room, rfl⟩ | ⟨-, -, rfl⟩ | ⟨full, -, rfl⟩
    · exact (live.storeByte h room b).raiseHwm
    · exact live
    · have taken : s.countOverflow.advanceR.LiveWritten :=
        State.LiveWritten.advanceR (s := s.countOverflow) live h.countOverflow
          (State.isEmpty_eq_false_of_isFull h.countOverflow full)
      exact taken.storeByte h.countOverflow.advanceR (h.isFull_displace full) b
  | slotless i hi => obtain ⟨p, st, rfl⟩ := exec_of_slot_none hi e; exact live

/-! ### The invariants of 10_state.md R35 -/

/-- An empty block with its flag clear meets them, whatever its storage was. -/
theorem inv_of_cleared {s : State} (h : s.Wf) (fill : s.fill = 0) (flag : s.hwm = false) : s.Inv :=
  ⟨h, hysteresis_of_cleared fill flag, liveWritten_of_empty fill⟩

theorem exec_keeps_inv {i : Instr} {s u : State} (inv : s.Inv) (e : exec i s = .next u) : u.Inv := by
  obtain ⟨h, hy, live⟩ := inv
  exact ⟨exec_keeps_wf h e, exec_keeps_hysteresis h hy e, exec_keeps_liveWritten h live e⟩

theorem step_keeps_inv {s u : State} (inv : s.Inv) (e : step s = .next u) : u.Inv :=
  step_keeps (P := State.Inv) exec_keeps_inv inv e

theorem step_withRequest_keeps_inv {s u : State} {q : RequestWord} (inv : s.Inv)
    (e : step (s.withRequest q) = .next u) : u.Inv :=
  step_keeps_inv (s := s.withRequest q) inv e

theorem Run.keeps_inv {s u : State} {tr : Trace} (run : Run s tr u) (inv : s.Inv) : u.Inv :=
  run.keeps (P := State.Inv) step_withRequest_keeps_inv inv

/-- Settles O38: at reset the block is empty, its flag clear, its storage without an entry. -/
theorem invariantsHoldAtReset : Obligations.InvariantsHoldAtReset := by
  intro c
  have wf : (State.resetOf c).Wf :=
    ⟨c.n_pos, c.n_pos, Nat.zero_le _, List.Pairwise.nil, fun _ hx => absurd hx List.not_mem_nil⟩
  exact inv_of_cleared wf (State.fill_of_cursors_eq rfl) rfl

/-- Settles O40: every operation of the cycle keeps range, flag and live slots. -/
theorem everyCycleKeepsTheInvariants : Obligations.EveryCycleKeepsTheInvariants :=
  fun _ _ => step_keeps_inv

/-! ### What each operation does to the flag -/

theorem execPush_hwm {s u : State} {b : Byte} (e : exec (.push b) s = .next u) :
    u.hwm = (s.hwm || (!s.isFull && decide (s.cfg.high ≤ u.fill))) := by
  rcases execPush_cases e with ⟨room, rfl⟩ | ⟨full, -, rfl⟩ | ⟨full, -, rfl⟩
  · simp only [room, State.respondPush_fill, State.raiseHwm_fill]
    exact State.raiseHwm_hwm _
  · simp [full]
  · simp [full]

theorem execPop_hwm {s u : State} (e : exec .pop s = .next u) :
    u.hwm = (s.hwm && !(!s.isEmpty && decide (u.fill ≤ s.cfg.low))) := by
  rcases execPop_cases e with ⟨empty, rfl⟩ | ⟨nonempty, rfl⟩
  · simp [empty]
  · simp only [nonempty, State.respondPop_fill, State.lowerHwm_fill]
    exact State.lowerHwm_hwm _

theorem exec_keeps_hwm_of_slot_none {i : Instr} {s u : State} (hi : i.slot = none)
    (e : exec i s = .next u) : u.hwm = s.hwm := by
  obtain ⟨p, st, rfl⟩ := exec_of_slot_none hi e
  rfl

/-- Where the flag and the level were consistent, a change of the flag crosses a threshold. -/
theorem exec_hwm_change_crosses {i : Instr} {s u : State} (hy : s.Hysteresis)
    (notInit : i ≠ .init) (e : exec i s = .next u) (change : u.hwm ≠ s.hwm) :
    (s.hwm = false → s.fill < s.cfg.high ∧ s.cfg.high ≤ u.fill) ∧
    (s.hwm = true → s.cfg.low < s.fill ∧ u.fill ≤ s.cfg.low) := by
  obtain ⟨below, above⟩ := hy
  induction i using slotCases with
  | init => exact absurd rfl notInit
  | pop =>
    rw [execPop_hwm e] at change
    obtain ⟨flag, -, low⟩ : s.hwm = true ∧ s.isEmpty = false ∧ u.fill ≤ s.cfg.low := by
      simpa using change
    exact ⟨fun clear => by simp [flag] at clear, fun _ => ⟨above flag, low⟩⟩
  | push b =>
    rw [execPush_hwm e] at change
    obtain ⟨clear, -, high⟩ : s.hwm = false ∧ s.isFull = false ∧ s.cfg.high ≤ u.fill := by
      simpa [and_comm, and_left_comm] using change
    exact ⟨fun _ => ⟨below clear, high⟩, fun flag => by simp [clear] at flag⟩
  | slotless i hi => exact absurd (exec_keeps_hwm_of_slot_none hi e) change

/-- Settles O21: the flag after each operation, and then the crossing, from the flag's formula and the
consistency before the operation. -/
theorem watermarkFlagChangesOnlyAtThresholds : Obligations.WatermarkFlagChangesOnlyAtThresholds := by
  refine ⟨fun s u e => ?_, fun s u b _ e => execPush_hwm e, fun s u _ e => execPop_hwm e,
    fun i s u hi e => exec_keeps_hwm_of_slot_none hi e, fun i s u inv notInit e => ?_⟩
  · rw [execInit_next e]
  · obtain ⟨-, hy, -⟩ := inv
    exact exec_hwm_change_crosses hy notInit e

end Sys2Proof.Machine
end

section
/-! PROOFS. The queue of live bytes (10_state.md R36) under every operation and every cycle: O42, O43. -/

namespace Sys2Proof.Machine

theorem State.isFull_iff_length_queue {s : State} (h : s.Wf) :
    s.isFull = true ↔ s.queue.length = s.cfg.usable := by
  rw [State.isFull_iff_fill h, State.length_queue, Config.usable]

theorem State.isEmpty_iff_queue {s : State} (h : s.Wf) : s.isEmpty = true ↔ s.queue = [] := by
  rw [State.isEmpty_iff_fill h, State.queue_eq_nil_iff]

namespace State.Wf
variable {s : State} (h : s.Wf)
include h

theorem queue_storeByte (room : s.isFull = false) (b : Byte) :
    (s.storeByte b).queue = s.queue ++ [b] :=
  queue_of_storeByte h room rfl rfl rfl rfl

theorem queue_eq_oldest_cons (nonempty : s.isEmpty = false) : s.queue = s.oldest :: s.advanceR.queue :=
  queue_of_advanceR h nonempty rfl rfl rfl rfl

theorem queue_advanceR (nonempty : s.isEmpty = false) : s.advanceR.queue = s.queue.tail := by
  rw [h.queue_eq_oldest_cons nonempty, List.tail_cons]

/-- A displacing PUSH takes the head off and appends its byte (42_push.md R109). -/
theorem queue_displace (full : s.isFull = true) (b : Byte) :
    (s.countOverflow.advanceR.storeByte b).queue = s.queue.tail ++ [b] := by
  rw [h.countOverflow.advanceR.queue_storeByte (h.isFull_displace full),
    h.countOverflow.queue_advanceR (State.isEmpty_eq_false_of_isFull h.countOverflow full),
    State.countOverflow_queue]

end State.Wf

/-- The rows of the table that leave the queue alone. -/
theorem queueAfter_of_slot_none {i : Instr} (hi : i.slot = none) (c : Config) (q : List Byte) :
    queueAfter c q i = q := by
  cases i with
  | nop | isEmpty | isFull | level | capacity | status => rfl
  | init | pop | push => simp [Instr.slot] at hi

theorem queueAfter_push_of_room {c : Config} {q : List Byte} (h : q.length ≠ c.usable) (b : Byte) :
    queueAfter c q (.push b) = q ++ [b] := if_neg h

theorem queueAfter_push_of_drop {c : Config} {q : List Byte} (h : q.length = c.usable)
    (hp : c.policy = .dropNewest) (b : Byte) : queueAfter c q (.push b) = q := by
  simp [queueAfter, h, hp]

theorem queueAfter_push_of_displace {c : Config} {q : List Byte} (h : q.length = c.usable)
    (hp : c.policy = .overwriteOldest) (b : Byte) :
    queueAfter c q (.push b) = q.tail ++ [b] := by
  simp [queueAfter, h, hp]

/-- Every operation acts on the queue as its row of the table says (10_state.md R36). -/
theorem exec_queue {i : Instr} {s u : State} (h : s.Wf) (e : exec i s = .next u) :
    u.queue = queueAfter s.cfg s.queue i := by
  induction i using slotCases with
  | init =>
    rw [execInit_next e]
    exact (State.queue_eq_nil_iff _).2 (State.fill_of_cursors_eq rfl)
  | pop =>
    show u.queue = s.queue.tail
    rcases execPop_cases e with ⟨empty, rfl⟩ | ⟨nonempty, rfl⟩
    · simp [(State.isEmpty_iff_queue h).1 empty]
    · simp [h.queue_advanceR nonempty]
  | push b =>
    have length := State.isFull_iff_length_queue h
    rcases execPush_cases e with ⟨room, rfl⟩ | ⟨full, drop, rfl⟩ | ⟨full, displace, rfl⟩
    · rw [queueAfter_push_of_room (length.not.1 (by simp [room]))]
      simp [h.queue_storeByte room]
    · rw [queueAfter_push_of_drop (length.1 full) drop]
      simp
    · rw [queueAfter_push_of_displace (length.1 full) displace]
      simp [h.queue_displace full]
  | slotless i hi =>
    rw [queueAfter_of_slot_none hi]
    obtain ⟨p, st, rfl⟩ := exec_of_slot_none hi e
    rfl

/-- A POP succeeds exactly on a block that is not empty, and returns the head of the queue (43_pop.md R121,
R123). -/
theorem execPop_returns_head {s u : State} (h : s.Wf) (e : exec .pop s = .next u) :
    (u.rsp.popOk = true ↔ s.queue ≠ []) ∧ ∀ d rest, s.queue = d :: rest → u.rsp.popData = d := by
  rcases execPop_cases e with ⟨empty, rfl⟩ | ⟨nonempty, rfl⟩
  · simp [(State.isEmpty_iff_queue h).1 empty]
  · rw [h.queue_eq_oldest_cons nonempty]
    refine ⟨by simp, fun d rest hq => ?_⟩
    exact (List.cons.inj hq).1

/-- Settles O42. -/
theorem everyOperationActsOnTheQueue : Obligations.EveryOperationActsOnTheQueue := by
  intro i s u h e
  refine ⟨s.length_queue, exec_queue h e, fun isPop => ?_⟩
  subst isPop
  exact execPop_returns_head h e

/-- A line acts on the queue as its operations do, one after another. -/
theorem runLine_queue {l : Line} {s u : State} (h : s.Wf) (e : runLine l s = .next u) :
    u.queue = l.foldl (queueAfter s.cfg) s.queue := by
  induction l generalizing s with
  | nil => cases e; rfl
  | cons i rest ih =>
    obtain ⟨m, first, e⟩ := runLine_cons_eq_next e
    rw [ih (exec_keeps_wf h first) e, exec_keeps_cfg first, exec_queue h first, List.foldl_cons]

/-- Settles O43: a cycle is the line of its decoded operations, run from the queue it starts with. -/
theorem everyCycleActsOnTheQueueInOrder : Obligations.EveryCycleActsOnTheQueueInOrder := by
  intro s u q h e
  rw [step_eq] at e
  exact runLine_queue (s := (s.withRequest q).sampled) h e

end Sys2Proof.Machine
end

section
/-! PROOFS. The overflow counter (10_state.md R27): what raises it, and what it counts since an INIT: O23,
O48. -/

namespace Sys2Proof.Machine

/-- The counter goes up by one in a PUSH on a full block, saturated, and `ovf_event` says so (42_push.md
R111). -/
theorem execPush_ovf {s u : State} {b : Byte} (e : exec (.push b) s = .next u) :
    u.ovf = (if s.isFull then saturate s.cfg (s.ovf + 1) else s.ovf) ∧ u.rsp.ovfEvent = s.isFull := by
  rcases execPush_cases e with ⟨room, rfl⟩ | ⟨full, -, rfl⟩ | ⟨full, -, rfl⟩
  · simp [room]
  · simp [full]
  · simp [full]

/-- A POP touches neither the counter nor the ports of a PUSH (43_pop.md R121, R123). -/
theorem execPop_frame {s u : State} (e : exec .pop s = .next u) :
    u.ovf = s.ovf ∧ u.rsp.pushOk = s.rsp.pushOk ∧ u.rsp.ovfEvent = s.rsp.ovfEvent := by
  rcases execPop_cases e with ⟨-, rfl⟩ | ⟨-, rfl⟩ <;> simp

/-- The counter after one more event, from a value in range. -/
theorem saturate_succ_bounds {c : Config} {v : Nat} (h : v ≤ c.ovfMax) :
    v ≤ saturate c (v + 1) ∧ saturate c (v + 1) ≤ v + 1 :=
  ⟨le_min v.le_succ h, min_le_left _ _⟩

theorem exec_ovf_bounds {i : Instr} {s u : State} (h : s.Wf) (notInit : i ≠ .init)
    (e : exec i s = .next u) :
    s.ovf ≤ u.ovf ∧ u.ovf ≤ s.ovf + 1 ∧ (u.ovf ≠ s.ovf → s.isFull = true ∧ ∃ b, i = .push b) := by
  induction i using slotCases with
  | init => exact absurd rfl notInit
  | pop =>
    obtain ⟨same, -⟩ := execPop_frame e
    simp [same]
  | push b =>
    obtain ⟨-, -, inRange, -⟩ := h
    obtain ⟨ovf, -⟩ := execPush_ovf e
    rw [ovf]
    split
    · next full =>
      obtain ⟨lower, upper⟩ := saturate_succ_bounds inRange
      exact ⟨lower, upper, fun _ => ⟨full, b, rfl⟩⟩
    · simp
  | slotless i hi => obtain ⟨p, st, rfl⟩ := exec_of_slot_none hi e; simp

/-- A cycle without INIT adds its overflow event to the counter, saturated. -/
theorem step_ovf {s u : State} {q : RequestWord} (h : s.Wf) (noInit : reqInit q = false)
    (e : step (s.withRequest q) = .next u) :
    u.ovf = min (s.ovf + u.rsp.ovfEvent.toNat) s.cfg.ovfMax := by
  obtain ⟨s₁, s₂, init, pop, push⟩ := step_stages e
  rw [noInit] at init
  cases init
  have before : s₂.cfg = s.cfg ∧ s₂.ovf = s.ovf ∧ s₂.rsp.ovfEvent = false := by
    refine pop.keeps (P := fun x => x.cfg = s.cfg ∧ x.ovf = s.ovf ∧ x.rsp.ovfEvent = false)
      (fun e => ?_) ⟨rfl, rfl, rfl⟩
    obtain ⟨ovf, -, event⟩ := execPop_frame e
    have cfg := exec_keeps_cfg e
    exact ⟨cfg, ovf, event⟩
  obtain ⟨cfg, ovf, event⟩ := before
  obtain ⟨-, -, inRange, -⟩ := h
  rcases performs_iff.1 push with ⟨-, e⟩ | ⟨-, rfl⟩
  · obtain ⟨ovf', event'⟩ := execPush_ovf e
    rw [ovf', event', cfg, ovf]
    cases s₂.isFull <;> simp [saturate, inRange]
  · simp [ovf, event, inRange]

theorem step_ovf_bounds {s u : State} {q : RequestWord} (h : s.Wf) (noInit : reqInit q = false)
    (e : step (s.withRequest q) = .next u) : s.ovf ≤ u.ovf ∧ u.ovf ≤ s.cfg.ovfMax := by
  rw [step_ovf h noInit e]
  obtain ⟨-, -, inRange, -⟩ := h
  exact ⟨le_min (Nat.le_add_right _ _) inRange, min_le_right _ _⟩

/-- Settles O23: the counter operation by operation, and then over a cycle without INIT. -/
theorem overflowCounterFallsOnlyByInit : Obligations.OverflowCounterFallsOnlyByInit := by
  refine ⟨fun i s u h e => ⟨fun isInit => ?_, fun notInit => exec_ovf_bounds h notInit e⟩,
    fun s u q h noInit e => step_ovf_bounds h noInit e⟩
  subst isInit
  rw [execInit_next e]

/-- In a cycle with INIT the POP meets an empty block, and a PUSH finds room: the counter ends at 0
(45_cycle.md R144). -/
theorem step_init_ovf {s u : State} {q : RequestWord} (init : reqInit q = true)
    (e : step (s.withRequest q) = .next u) : u.ovf = 0 ∧ u.rsp.ovfEvent = false := by
  obtain ⟨s₁, s₂, cleared, pop, push⟩ := step_stages e
  rw [init] at cleared
  have cleared := execInit_next cleared
  have before : s₂.w = 0 ∧ s₂.r = 0 ∧ s₂.ovf = 0 ∧ s₂.rsp.ovfEvent = false := by
    subst cleared
    refine pop.keeps (P := fun x => x.w = 0 ∧ x.r = 0 ∧ x.ovf = 0 ∧ x.rsp.ovfEvent = false)
      (fun e => ?_) ⟨rfl, rfl, rfl, rfl⟩
    rw [execPop_of_empty rfl] at e
    cases e
    exact ⟨rfl, rfl, rfl, rfl⟩
  obtain ⟨hw, hr, ovf, event⟩ := before
  rcases performs_iff.1 push with ⟨-, e⟩ | ⟨-, rfl⟩
  · obtain ⟨ovf', event'⟩ := execPush_ovf e
    rw [ovf', event', State.isFull_eq_false_of_cursors_zero hw hr]
    exact ⟨ovf, rfl⟩
  · exact ⟨ovf, event⟩

@[simp] theorem Trace.overflows_cons (q : RequestWord) (p : Response) (tr : Trace) :
    Trace.overflows ((q, p) :: tr) = p.ovfEvent.toNat + tr.overflows := by
  cases h : p.ovfEvent <;> simp [Trace.overflows, h, Nat.add_comm]

/-- Over a run without INIT the counter goes up by the overflow events, saturated. -/
theorem Run.ovf {s u : State} {tr : Trace} (run : Run s tr u) (h : s.Wf) (noInit : tr.NoInit) :
    u.ovf = min (s.ovf + tr.overflows) s.cfg.ovfMax := by
  induction run with
  | done s =>
    obtain ⟨-, -, inRange, -⟩ := h
    simp [Trace.overflows, inRange]
  | @cycle s s' u q tr first rest ih =>
    obtain ⟨head, tail⟩ := List.forall_mem_cons.1 noInit
    rw [ih (step_withRequest_keeps_wf h first) tail, step_ovf h head first,
      step_withRequest_keeps_cfg first, Trace.overflows_cons]
    omega

/-- Settles O48: the INIT cycle leaves the counter at 0 and holds no event; from there on the counter and the
events rise together. -/
theorem counterHoldsOverflowsSinceInit : Obligations.CounterHoldsOverflowsSinceInit := by
  intro s u tr h since run
  cases run with
  | done => exact since.elim
  | @cycle _ s' _ q tr first rest =>
    obtain ⟨init, noInit⟩ := since
    obtain ⟨ovf, event⟩ := step_init_ovf init first
    rw [rest.ovf (step_withRequest_keeps_wf h first) noInit, Trace.overflows_cons, ovf,
      event, step_withRequest_keeps_cfg first]
    rfl

end Sys2Proof.Machine
end

section
/-! PROOFS. What holds since an INIT (10_state.md R35): the invariants, and that every live byte was stored in
the run: O41. -/

namespace Sys2Proof.Machine

/-- A cycle with INIT establishes the invariants, from any registers in range. -/
theorem step_init_inv {s u : State} {q : RequestWord} (h : s.Wf) (init : reqInit q = true)
    (e : step (s.withRequest q) = .next u) : u.Inv := by
  obtain ⟨s₁, s₂, cleared, pop, push⟩ := step_stages e
  rw [init] at cleared
  have wf : s₁.Wf := exec_keeps_wf (s := (s.withRequest q).sampled) h cleared
  have inv₁ : s₁.Inv := by
    rw [execInit_next cleared] at wf ⊢
    exact inv_of_cleared wf (State.fill_of_cursors_eq rfl) rfl
  have inv₂ : s₂.Inv := pop.keeps (exec_keeps_inv inv₁) inv₁
  exact push.keeps (exec_keeps_inv inv₂) inv₂

/-- The bytes in the queue after a PUSH were there before it, but for its own. -/
theorem execPush_queue_mem {s u : State} {b x : Byte} (h : s.Wf) (e : exec (.push b) s = .next u)
    (hx : x ∈ u.queue) : x ∈ s.queue ∨ (u.rsp.pushOk = true ∧ x = b) := by
  rcases execPush_cases e with ⟨room, rfl⟩ | ⟨-, -, rfl⟩ | ⟨full, -, rfl⟩
  · simpa [h.queue_storeByte room] using hx
  · exact .inl hx
  · have oldOrNew : x ∈ s.queue.tail ∨ x = b := by simpa [h.queue_displace full] using hx
    exact oldOrNew.imp List.mem_of_mem_tail fun isByte => ⟨rfl, isByte⟩

theorem execPop_queue_mem {s u : State} {x : Byte} (h : s.Wf) (e : exec .pop s = .next u)
    (hx : x ∈ u.queue) : x ∈ s.queue := by
  rw [exec_queue h e] at hx
  exact List.mem_of_mem_tail hx

/-- A byte in the queue after a cycle was there before, and no INIT in between, or the cycle stored it. -/
theorem step_queue_mem {s u : State} {q : RequestWord} {x : Byte} (h : s.Wf)
    (e : step (s.withRequest q) = .next u) (hx : x ∈ u.queue) :
    (reqInit q = false ∧ x ∈ s.queue) ∨ (u.rsp.pushOk = true ∧ x = reqData q) := by
  obtain ⟨s₁, s₂, init, pop, push⟩ := step_stages e
  have wf₁ : s₁.Wf := init.keeps_wf h
  have wf₂ : s₂.Wf := pop.keeps_wf wf₁
  have afterInit : x ∈ s₁.queue → reqInit q = false ∧ x ∈ s.queue := by
    rcases performs_iff.1 init with ⟨-, e⟩ | ⟨noInit, rfl⟩
    · rw [exec_queue (s := (s.withRequest q).sampled) h e]
      exact fun inEmpty => absurd inEmpty List.not_mem_nil
    · exact fun hx => ⟨noInit, hx⟩
  have afterPop : x ∈ s₂.queue → x ∈ s₁.queue :=
    pop.keeps (P := fun t => x ∈ t.queue → x ∈ s₁.queue) (execPop_queue_mem wf₁) id
  rcases performs_iff.1 push with ⟨-, e⟩ | ⟨-, rfl⟩
  · exact (execPush_queue_mem wf₂ e hx).imp_left (afterInit ∘ afterPop)
  · exact .inl (afterInit (afterPop hx))

theorem Trace.mem_stored_cons {q : RequestWord} {p : Response} {tr : Trace} {x : Byte} :
    x ∈ Trace.stored ((q, p) :: tr) ↔ (p.pushOk = true ∧ x = reqData q) ∨ x ∈ tr.stored := by
  cases h : p.pushOk <;> simp [Trace.stored, h]

/-- Over a run the queue gains stored bytes only. -/
theorem Run.queue_mem {s u : State} {tr : Trace} {x : Byte} (run : Run s tr u) (h : s.Wf)
    (hx : x ∈ u.queue) : x ∈ s.queue ∨ x ∈ tr.stored := by
  induction run with
  | done => exact .inl hx
  | cycle first _ ih =>
    rw [Trace.mem_stored_cons]
    rcases ih (step_withRequest_keeps_wf h first) hx with before | after
    · exact (step_queue_mem h first before).imp And.right .inl
    · exact .inr (.inr after)

/-- Since an INIT, every byte in the queue was stored in the run. -/
theorem Run.queue_mem_stored {s u : State} {tr : Trace} {x : Byte} (run : Run s tr u) (h : s.Wf)
    (since : tr.SinceInit) (hx : x ∈ u.queue) : x ∈ tr.stored := by
  cases run with
  | done => exact since.elim
  | cycle first rest =>
    obtain ⟨init, -⟩ := since
    rw [Trace.mem_stored_cons]
    refine (rest.queue_mem (step_withRequest_keeps_wf h first) hx).imp_left fun before => ?_
    exact (step_queue_mem h first before).resolve_left fun ⟨noInit, _⟩ => by simp [init] at noInit

/-- Since an INIT, the invariants hold. -/
theorem Run.inv_since_init {s u : State} {tr : Trace} (run : Run s tr u) (h : s.Wf)
    (since : tr.SinceInit) : u.Inv := by
  cases run with
  | done => exact since.elim
  | cycle first rest =>
    obtain ⟨init, -⟩ := since
    exact rest.keeps_inv (step_init_inv h init first)

/-- A live slot that is written holds a byte of the queue. -/
theorem exists_mem_queue_of_live {s : State} (live : s.LiveWritten) {k : Nat} (hk : k < s.fill) :
    ∃ b ∈ s.queue, Memory.read? s.mem (slotOf s.cfg (s.r + k)) = some b := by
  obtain ⟨b, hb⟩ := Option.isSome_iff_exists.1 (live k hk)
  refine ⟨b, List.mem_map.2 ⟨k, List.mem_range.2 hk, ?_⟩, hb⟩
  rw [State.memRead, hb, Option.getD_some]

/-- Settles O41: the INIT cycle establishes the invariants and every later one keeps them, and a live slot holds
a byte of the queue, which gained nothing but bytes stored in the run. -/
theorem invariantsHoldSinceInit : Obligations.InvariantsHoldSinceInit := by
  intro s u tr h since run
  obtain ⟨wf, ⟨below, above⟩, live⟩ := run.inv_since_init h since
  have ⟨hw, hr, _⟩ := wf
  refine ⟨Nat.le_sub_one_of_lt u.fill_lt, u.isEmpty_iff_cursors, below, above, ?counter, ?stored,
    hw, hr⟩
  case counter =>
    intro q v noInit e
    exact (step_ovf_bounds wf noInit e).1
  case stored =>
    intro k hk
    obtain ⟨b, inQueue, read⟩ := exists_mem_queue_of_live live hk
    exact ⟨b, run.queue_mem_stored h since inQueue, read⟩

end Sys2Proof.Machine
end

section
/-! PROOFS. Two blocks that agree on all but the slots outside the queue stay alike under every operation,
cycle and run (10_state.md R37): O44. -/

namespace Sys2Proof.Machine

/-- In range, agreeing in what an observer can find out, and showing the same on every port that counts
(10_state.md R37, 43_pop.md R124). -/
structure State.Alike (s v : State) : Prop where
  wfLeft : s.Wf
  wfRight : v.Wf
  agrees : s.Agrees v
  rsp : s.rsp.Agrees v.rsp
  stat : s.stat = v.stat

/-- The status ports' values come from what agreeing states share. -/
theorem State.Agrees.snapshot {s v : State} (h : s.Agrees v) : s.snapshot = v.snapshot := by
  obtain ⟨hc, hw, hr, ho, hh, -⟩ := h
  simp [State.snapshot, State.util, State.fill, State.isEmpty, State.isFull, hc, hw, hr, ho, hh]

theorem State.Agrees.isEmpty {s v : State} (h : s.Agrees v) : s.isEmpty = v.isEmpty :=
  congrArg Status.empty h.snapshot

theorem State.Agrees.isFull {s v : State} (h : s.Agrees v) : s.isFull = v.isFull :=
  congrArg Status.full h.snapshot

theorem State.Agrees.fill {s v : State} (h : s.Agrees v) : s.fill = v.fill :=
  congrArg Status.level h.snapshot

/-- Range and queue carry over an operation by themselves; what is left to show of two blocks on which the same
operation is performed is the control fields and the ports. -/
theorem State.Alike.of_exec {i : Instr} {s v u x : State} (h : s.Alike v) (eu : exec i s = .next u)
    (ex : exec i v = .next x)
    (control : u.w = x.w ∧ u.r = x.r ∧ u.ovf = x.ovf ∧ u.hwm = x.hwm) (rsp : u.rsp.Agrees x.rsp)
    (stat : u.stat = x.stat) : u.Alike x := by
  obtain ⟨wfs, wfv, ⟨hc, -, -, -, -, hq⟩, -, -⟩ := h
  obtain ⟨hw, hr, ho, hh⟩ := control
  refine ⟨exec_keeps_wf wfs eu, exec_keeps_wf wfv ex, ⟨?_, hw, hr, ho, hh, ?_⟩, rsp, stat⟩
  · rw [exec_keeps_cfg eu, exec_keeps_cfg ex, hc]
  · rw [exec_queue wfs eu, exec_queue wfv ex, hc, hq]

theorem State.Alike.init {s v u x : State} (h : s.Alike v) (eu : exec .init s = .next u)
    (ex : exec .init v = .next x) : u.Alike x := by
  refine h.of_exec eu ex ?_ ?_ ?_ <;> rw [execInit_next eu, execInit_next ex]
  · exact ⟨rfl, rfl, rfl, rfl⟩
  · exact h.rsp
  · exact h.stat

theorem raiseHwm_hwm_congr {s v : State} (hc : s.cfg = v.cfg) (hh : s.hwm = v.hwm)
    (hf : s.fill = v.fill) : s.raiseHwm.hwm = v.raiseHwm.hwm := by
  rw [Bool.eq_iff_iff, State.raiseHwm_hwm_iff, State.raiseHwm_hwm_iff, hc, hh, hf]

theorem lowerHwm_hwm_congr {s v : State} (hc : s.cfg = v.cfg) (hh : s.hwm = v.hwm)
    (hf : s.fill = v.fill) : s.lowerHwm.hwm = v.lowerHwm.hwm := by
  rw [Bool.eq_iff_iff, State.lowerHwm_hwm_iff, State.lowerHwm_hwm_iff, hc, hh, hf]

theorem State.Alike.pop {s v u x : State} (h : s.Alike v) (eu : exec .pop s = .next u)
    (ex : exec .pop v = .next x) : u.Alike x := by
  have ⟨wfs, wfv, agrees, ⟨pushOk, _, event, _⟩, stat⟩ := h
  have ⟨hc, hw, hr, ho, hh, hq⟩ := agrees
  rcases execPop_cases eu with ⟨empty, rfl⟩ | ⟨nonempty, rfl⟩
  · have ev := execPop_of_empty (agrees.isEmpty ▸ empty)
    cases ev.symm.trans ex
    exact h.of_exec eu ev ⟨hw, hr, ho, hh⟩ ⟨pushOk, rfl, event, fun popOk => by cases popOk⟩ stat
  · have nonempty' : v.isEmpty = false := agrees.isEmpty ▸ nonempty
    have head : s.oldest = v.oldest := by
      rw [wfs.queue_eq_oldest_cons nonempty, wfv.queue_eq_oldest_cons nonempty'] at hq
      exact (List.cons.inj hq).1
    have flag : s.advanceR.lowerHwm.hwm = v.advanceR.lowerHwm.hwm :=
      lowerHwm_hwm_congr hc hh (fill_congr hc hw (by simp [hc, hr]))
    have ev := execPop_of_nonempty nonempty'
    cases ev.symm.trans ex
    exact h.of_exec eu ev ⟨by simpa using hw, by simp [hc, hr], by simpa using ho, flag⟩
      (by simp [Response.Agrees, pushOk, event, head]) (by simpa using stat)

theorem State.Alike.push {s v u x : State} {b : Byte} (h : s.Alike v)
    (eu : exec (.push b) s = .next u) (ex : exec (.push b) v = .next x) : u.Alike x := by
  have ⟨_, _, agrees, ⟨_, popOk, _, data⟩, stat⟩ := h
  have ⟨hc, hw, hr, ho, hh, _⟩ := agrees
  rcases execPush_cases eu with ⟨room, rfl⟩ | ⟨full, drop, rfl⟩ | ⟨full, displace, rfl⟩
  · have flag : (s.storeByte b).raiseHwm.hwm = (v.storeByte b).raiseHwm.hwm :=
      raiseHwm_hwm_congr hc hh (fill_congr hc (by simp [hc, hw]) hr)
    have ev := execPush_of_room (agrees.isFull ▸ room) b
    cases ev.symm.trans ex
    exact h.of_exec eu ev ⟨by simp [hc, hw], by simpa using hr, by simpa using ho, flag⟩
      (by simpa [Response.Agrees] using ⟨popOk, data⟩) (by simpa using stat)
  · have ev := execPush_of_drop (agrees.isFull ▸ full) (hc ▸ drop) b
    cases ev.symm.trans ex
    exact h.of_exec eu ev ⟨hw, hr, by simp [hc, ho], hh⟩ ⟨rfl, popOk, rfl, data⟩ stat
  · have ev := execPush_of_displace (agrees.isFull ▸ full) (hc ▸ displace) b
    cases ev.symm.trans ex
    exact h.of_exec eu ev ⟨by simp [hc, hw], by simp [hc, hr], by simp [hc, ho], hh⟩
      ⟨rfl, popOk, rfl, data⟩ stat

/-- What keeps two blocks alike when performed on both, keeps them alike as a stage of a cycle. -/
theorem State.Alike.performs {asked : Bool} {i : Instr} {s v u x : State} (h : s.Alike v)
    (hexec : exec i s = .next u → exec i v = .next x → u.Alike x) (pu : Performs asked i s u)
    (px : Performs asked i v x) : u.Alike x := by
  cases asked with
  | true => exact hexec pu px
  | false => cases pu; cases px; exact h

/-- A cycle samples agreeing blocks alike, and so leaves them alike (45_cycle.md R140). -/
theorem alike_of_step {s v u x : State} {q : RequestWord} (wfs : s.Wf) (wfv : v.Wf)
    (h : s.Agrees v) (eu : step (s.withRequest q) = .next u) (ex : step (v.withRequest q) = .next x) :
    u.Alike x := by
  obtain ⟨s₁, s₂, si, sp, su⟩ := step_stages eu
  obtain ⟨v₁, v₂, vi, vp, vu⟩ := step_stages ex
  have sampled : (s.withRequest q).sampled.Alike (v.withRequest q).sampled :=
    ⟨wfs, wfv, h, ⟨rfl, rfl, rfl, fun popOk => by cases popOk⟩, h.snapshot⟩
  have afterInit : s₁.Alike v₁ := sampled.performs sampled.init si vi
  have afterPop : s₂.Alike v₂ := afterInit.performs afterInit.pop sp vp
  exact afterPop.performs afterPop.push su vu

/-- Runs of agreeing blocks under the same request words answer alike and end in agreement. -/
theorem Run.agrees {s v s' v' : State} {tr ts : Trace} (wfs : s.Wf) (wfv : v.Wf) (h : s.Agrees v)
    (rs : Run s tr s') (rv : Run v ts v') (words : tr.map Prod.fst = ts.map Prod.fst) :
    s'.Agrees v' ∧ ∀ p ∈ tr.zip ts, p.1.2.Agrees p.2.2 := by
  induction rs generalizing v ts with
  | done =>
    obtain rfl : ts = [] := List.map_eq_nil_iff.1 words.symm
    cases rv
    exact ⟨h, fun _ hp => absurd hp List.not_mem_nil⟩
  | cycle first _ ih =>
    cases rv with
    | done => simp at words
    | cycle first' rest' =>
      obtain ⟨rfl, later⟩ := List.cons.inj words
      have alike := alike_of_step wfs wfv h first first'
      obtain ⟨final, responses⟩ := ih alike.wfLeft alike.wfRight alike.agrees rest' later
      exact ⟨final, List.forall_mem_cons.2 ⟨alike.rsp, responses⟩⟩

/-- Settles O44: agreement is carried through both runs, and the next cycle finds it at their ends. -/
theorem slotsOutsideTheQueueAreNeverObserved : Obligations.SlotsOutsideTheQueueAreNeverObserved := by
  intro s v s' v' tr ts wfs wfv h rs rv words
  obtain ⟨final, responses⟩ := Run.agrees wfs wfv h rs rv words
  refine ⟨final, responses, fun q s'' v'' es ev => ?_⟩
  have alike := alike_of_step (rs.keeps_wf wfs) (rv.keeps_wf wfv) final es ev
  exact ⟨alike.stat, alike.rsp⟩

end Sys2Proof.Machine
end

section
/-! PROOFS. Bytes leave in the order they were stored (20_memory.md R59): how bytes pass through the queue in an
operation, a cycle and a run, and O47. -/

namespace Sys2Proof.Machine

/-! ### Bytes passing through a queue -/

/-- From a queue `before` to a queue `after`, `stored` joins at the tail while `popped` and `displaced` others
leave at the head, in one order told by `out`: popped (`true`) or displaced (`false`). -/
def Passage (before stored popped : List Byte) (displaced : Nat) (after : List Byte) : Prop :=
  ∃ out : List (Bool × Byte), out.map Prod.snd ++ after = before ++ stored ∧
    (out.filter (fun x => x.1)).map Prod.snd = popped ∧
    (out.filter (fun x => !x.1)).length = displaced

namespace Passage

theorem refl (q : List Byte) : Passage q [] [] 0 q := ⟨[], by simp⟩

theorem pop (d : Byte) (q : List Byte) : Passage (d :: q) [] [d] 0 q := ⟨[(true, d)], by simp⟩

theorem store (q : List Byte) (b : Byte) : Passage q [b] [] 0 (q ++ [b]) := ⟨[], by simp⟩

theorem displace (d : Byte) (q : List Byte) (b : Byte) : Passage (d :: q) [b] [] 1 (q ++ [b]) :=
  ⟨[(false, d)], by simp⟩

/-- One passage after another: what leaves in the second leaves after what left in the first. -/
theorem trans {a b c stored stored' popped popped' : List Byte} {n n' : Nat}
    (first : Passage a stored popped n b) (second : Passage b stored' popped' n' c) :
    Passage a (stored ++ stored') (popped ++ popped') (n + n') c := by
  obtain ⟨out, order, rfl, rfl⟩ := first
  obtain ⟨out', order', rfl, rfl⟩ := second
  refine ⟨out ++ out', ?_, by simp, by simp⟩
  calc (out ++ out').map Prod.snd ++ c
      = out.map Prod.snd ++ (out'.map Prod.snd ++ c) := by simp
    _ = (out.map Prod.snd ++ b) ++ stored' := by rw [order', List.append_assoc]
    _ = a ++ (stored ++ stored') := by rw [order, List.append_assoc]

/-- Through a queue that was empty, the popped bytes come out of the stored ones, in order. -/
theorem popped_sublist {stored popped after : List Byte} {n : Nat}
    (h : Passage [] stored popped n after) : popped.Sublist stored := by
  obtain ⟨out, order, rfl, -⟩ := h
  rw [← List.nil_append stored, ← order]
  exact (List.filter_sublist.map _).trans (List.sublist_append_left _ _)

/-- With none displaced, every byte that left was popped, so the popped ones come first. -/
theorem popped_isPrefix {stored popped after : List Byte} (h : Passage [] stored popped 0 after) :
    popped <+: stored := by
  obtain ⟨out, order, rfl, noneDisplaced⟩ := h
  have allPopped : out.filter (fun x => x.1) = out :=
    List.filter_eq_self.2 (by simpa using noneDisplaced)
  rw [allPopped]
  exact ⟨after, order⟩

end Passage

/-! ### Operations -/

/-- A POP that succeeds takes the byte it returns off the queue (43_pop.md R121). -/
theorem execPop_passage {s u : State} (h : s.Wf) (e : exec .pop s = .next u) :
    Passage s.queue [] (if u.rsp.popOk then [u.rsp.popData] else []) 0 u.queue := by
  rcases execPop_cases e with ⟨-, rfl⟩ | ⟨nonempty, rfl⟩
  · exact .refl _
  · simpa [h.queue_eq_oldest_cons nonempty] using Passage.pop s.oldest s.advanceR.queue

/-- A PUSH answered with `push_ok` puts its byte on the queue, and with `ovf_event` besides it displaces the head
(42_push.md R107, R109); otherwise the queue stays (R110). -/
theorem execPush_passage {s u : State} {b : Byte} (h : s.Wf) (e : exec (.push b) s = .next u) :
    Passage s.queue (if u.rsp.pushOk then [b] else []) [] (u.rsp.pushOk && u.rsp.ovfEvent).toNat
      u.queue := by
  rcases execPush_cases e with ⟨room, rfl⟩ | ⟨-, -, rfl⟩ | ⟨full, -, rfl⟩
  · simpa [h.queue_storeByte room] using Passage.store s.queue b
  · exact .refl _
  · have nonempty := State.isEmpty_eq_false_of_isFull h full
    simpa [h.queue_displace full, h.queue_eq_oldest_cons nonempty] using
      Passage.displace s.oldest s.advanceR.queue b

/-- A PUSH leaves the ports of a POP alone. -/
theorem execPush_keeps_pop_ports {s u : State} {b : Byte} (e : exec (.push b) s = .next u) :
    u.rsp.popOk = s.rsp.popOk ∧ u.rsp.popData = s.rsp.popData := by
  rcases execPush_cases e with ⟨-, rfl⟩ | ⟨-, -, rfl⟩ | ⟨-, -, rfl⟩ <;> simp

/-- A PUSH that overflows stores its byte under OVERWRITE_OLDEST alone (42_push.md R109, R110). -/
theorem execPush_pushOk_iff_policy {s u : State} {b : Byte} (e : exec (.push b) s = .next u)
    (event : u.rsp.ovfEvent = true) : u.rsp.pushOk = true ↔ s.cfg.policy = .overwriteOldest := by
  rcases execPush_cases e with ⟨-, rfl⟩ | ⟨-, drop, rfl⟩ | ⟨-, displace, rfl⟩
  · simp at event
  · simp [drop]
  · simp [displace]

/-! ### Cycles -/

/-- INIT has no response port: the POP of a cycle finds the responses idle. -/
theorem rsp_idle_after_init {s s₁ : State} {q : RequestWord} {asked : Bool}
    (init : Performs asked .init (s.withRequest q).sampled s₁) :
    s₁.rsp.pushOk = false ∧ s₁.rsp.popOk = false ∧ s₁.rsp.ovfEvent = false := by
  rcases performs_iff.1 init with ⟨-, e⟩ | ⟨-, rfl⟩
  · rw [execInit_next e]
    exact ⟨rfl, rfl, rfl⟩
  · exact ⟨rfl, rfl, rfl⟩

/-- A POP leaves the ports of a PUSH alone: the PUSH of a cycle finds them idle. -/
theorem push_ports_idle_after_pop {s₁ s₂ : State} {asked : Bool} (pop : Performs asked .pop s₁ s₂)
    (pushOk : s₁.rsp.pushOk = false) (event : s₁.rsp.ovfEvent = false) :
    s₂.rsp.pushOk = false ∧ s₂.rsp.ovfEvent = false := by
  rcases performs_iff.1 pop with ⟨-, e⟩ | ⟨-, rfl⟩
  · obtain ⟨-, samePushOk, sameEvent⟩ := execPop_frame e
    exact ⟨samePushOk.trans pushOk, sameEvent.trans event⟩
  · exact ⟨pushOk, event⟩

/-- A cycle passes through the queue, emptied first if it holds an INIT, what its response says. -/
theorem step_passage {s u : State} {q : RequestWord} (h : s.Wf)
    (e : step (s.withRequest q) = .next u) :
    Passage (if reqInit q then [] else s.queue) (if u.rsp.pushOk then [reqData q] else [])
      (if u.rsp.popOk then [u.rsp.popData] else []) (u.rsp.pushOk && u.rsp.ovfEvent).toNat u.queue := by
  obtain ⟨s₁, s₂, init, pop, push⟩ := step_stages e
  have wf₁ : s₁.Wf := init.keeps_wf h
  obtain ⟨pushOk₁, popOk₁, event₁⟩ := rsp_idle_after_init init
  obtain ⟨pushOk₂, -⟩ := push_ports_idle_after_pop pop pushOk₁ event₁
  have start : s₁.queue = if reqInit q then [] else s.queue := by
    rcases performs_iff.1 init with ⟨asked, e⟩ | ⟨notAsked, rfl⟩
    · rw [asked, exec_queue (s := (s.withRequest q).sampled) h e]
      rfl
    · rw [notAsked]
      rfl
  have popping : Passage s₁.queue [] (if s₂.rsp.popOk then [s₂.rsp.popData] else []) 0 s₂.queue := by
    rcases performs_iff.1 pop with ⟨-, e⟩ | ⟨-, rfl⟩
    · exact execPop_passage wf₁ e
    · simpa [popOk₁] using Passage.refl s₂.queue
  rw [← start]
  rcases performs_iff.1 push with ⟨-, e⟩ | ⟨-, rfl⟩
  · obtain ⟨popOk, popData⟩ := execPush_keeps_pop_ports e
    simpa [popOk, popData] using popping.trans (execPush_passage (pop.keeps_wf wf₁) e)
  · simpa [pushOk₂] using popping

/-- In a cycle that overflows, the byte is stored under OVERWRITE_OLDEST alone. -/
theorem step_pushOk_iff_policy {s u : State} {q : RequestWord} (e : step (s.withRequest q) = .next u)
    (event : u.rsp.ovfEvent = true) : u.rsp.pushOk = true ↔ s.cfg.policy = .overwriteOldest := by
  have cfg := step_withRequest_keeps_cfg e
  obtain ⟨s₁, s₂, init, pop, push⟩ := step_stages e
  obtain ⟨pushOk₁, -, event₁⟩ := rsp_idle_after_init init
  obtain ⟨-, event₂⟩ := push_ports_idle_after_pop pop pushOk₁ event₁
  rcases performs_iff.1 push with ⟨-, e⟩ | ⟨-, rfl⟩
  · rw [execPush_pushOk_iff_policy e event, ← exec_keeps_cfg e, cfg]
  · simp [event₂] at event

/-! ### Runs -/

@[simp] theorem Trace.stored_cons (q : RequestWord) (p : Response) (tr : Trace) :
    Trace.stored ((q, p) :: tr) = (if p.pushOk then [reqData q] else []) ++ tr.stored := by
  cases h : p.pushOk <;> simp [Trace.stored, h]

@[simp] theorem Trace.popped_cons (q : RequestWord) (p : Response) (tr : Trace) :
    Trace.popped ((q, p) :: tr) = (if p.popOk then [p.popData] else []) ++ tr.popped := by
  cases h : p.popOk <;> simp [Trace.popped, h]

@[simp] theorem Trace.displaced_cons (q : RequestWord) (p : Response) (tr : Trace) :
    Trace.displaced ((q, p) :: tr) = (p.pushOk && p.ovfEvent).toNat + tr.displaced := by
  cases h : p.pushOk && p.ovfEvent <;> simp [Trace.displaced, h, Nat.add_comm]

/-- A run without INIT passes its bytes through the queue. -/
theorem Run.passage {s u : State} {tr : Trace} (run : Run s tr u) (h : s.Wf) (noInit : tr.NoInit) :
    Passage s.queue tr.stored tr.popped tr.displaced u.queue := by
  induction run with
  | done s => exact .refl s.queue
  | @cycle s s' u q tr first rest ih =>
    obtain ⟨head, tail⟩ := List.forall_mem_cons.1 noInit
    have cycle := step_passage h first
    rw [if_neg (by simp [head])] at cycle
    simpa using cycle.trans (ih (step_withRequest_keeps_wf h first) tail)

/-- Since an INIT, bytes pass through a queue that was empty. -/
theorem Run.passage_since_init {s u : State} {tr : Trace} (run : Run s tr u) (h : s.Wf)
    (since : tr.SinceInit) : Passage [] tr.stored tr.popped tr.displaced u.queue := by
  cases run with
  | done => exact since.elim
  | cycle first rest =>
    obtain ⟨init, noInit⟩ := since
    have cycle := step_passage h first
    rw [if_pos init] at cycle
    simpa using cycle.trans (rest.passage (step_withRequest_keeps_wf h first) noInit)

/-- Whether an overflow of a run displaces a byte is the policy's to say. -/
theorem Run.pushOk_iff_policy {s u : State} {tr : Trace} (run : Run s tr u) :
    ∀ x ∈ tr, x.2.ovfEvent = true → (x.2.pushOk = true ↔ s.cfg.policy = .overwriteOldest) := by
  induction run with
  | done => exact fun _ hx => absurd hx List.not_mem_nil
  | cycle first _ ih =>
    rw [step_withRequest_keeps_cfg first] at ih
    exact List.forall_mem_cons.2 ⟨step_pushOk_iff_policy first, ih⟩

/-- Under DROP_NEWEST no byte is displaced (42_push.md R110). -/
theorem Run.displaced_eq_zero {s u : State} {tr : Trace} (run : Run s tr u)
    (drop : s.cfg.policy = .dropNewest) : tr.displaced = 0 := by
  refine List.countP_eq_zero.2 fun x hx displacing => ?_
  obtain ⟨pushOk, event⟩ := Bool.and_eq_true_iff.1 displacing
  simp [(run.pushOk_iff_policy x hx event).1 pushOk] at drop

/-- Under OVERWRITE_OLDEST every overflow displaces a byte (42_push.md R109). -/
theorem Run.displaced_eq_overflows {s u : State} {tr : Trace} (run : Run s tr u)
    (overwrite : s.cfg.policy = .overwriteOldest) : tr.displaced = tr.overflows := by
  refine List.countP_congr fun x hx => Bool.and_eq_true_iff.trans (and_iff_right_of_imp fun event => ?_)
  exact (run.pushOk_iff_policy x hx event).2 overwrite

/-- Settles O47: the bytes of the run passed through a queue that INIT emptied, and the policy says whether an
overflow displaces. -/
theorem bytesLeaveInTheOrderTheyWereStored : Obligations.BytesLeaveInTheOrderTheyWereStored := by
  intro s u tr h since run
  have passage := run.passage_since_init h since
  have ⟨out, order, popped, displaced⟩ := passage
  refine ⟨out, order, popped, displaced, passage.popped_sublist, fun drop => ?_, fun overwrite => ?_⟩
  · rw [run.displaced_eq_zero drop] at passage
    exact passage.popped_isPrefix
  · rw [run.displaced_eq_overflows overwrite]
    exact counterHoldsOverflowsSinceInit s u tr h since run

end Sys2Proof.Machine
end

section
/-! PROOFS. The request word and the lines it can ask for (30_encoding.md R74 to R81): a word is told by its four
fields, and a well-formed line is NOP or one choice for each of the three slots: O49, O50, O51. -/

namespace Sys2Proof

/-! ### The fields of a word -/

/-- A request word is its four fields (30_encoding.md R74). -/
theorem requestWord_ext {p q : RequestWord} (init : reqInit p = reqInit q) (pop : reqPop p = reqPop q)
    (push : reqPush p = reqPush q) (data : reqData p = reqData q) : p = q := by
  refine BitVec.eq_of_getLsbD_eq fun i hi => ?_
  by_cases byte : i < 8
  · simpa [reqData, byte] using congrArg (fun b => b.getLsbD i) data
  · obtain rfl | rfl | rfl : i = 8 ∨ i = 9 ∨ i = 10 := by omega
    · exact push
    · exact pop
    · exact init

/-- With its byte masked off, a word keeps its three slots (30_encoding.md R75). -/
theorem fields_of_and_slotMask (q : RequestWord) :
    reqInit (q &&& 0x700#11) = reqInit q ∧ reqPop (q &&& 0x700#11) = reqPop q ∧
      reqPush (q &&& 0x700#11) = reqPush q ∧ reqData (q &&& 0x700#11) = 0#8 := by
  have noByte : (0x700#11).extractLsb' 0 8 = 0#8 := by decide
  simp [reqInit, reqPop, reqPush, reqData, BitVec.extractLsb'_and, noByte]

/-! ### Well-formed lines -/

theorem Line.wellFormed_iff {l : Line} :
    l.wellFormed = true ↔ l = [.nop] ∨ (l ≠ [] ∧ l.ordered = true) := by
  simp [Line.wellFormed]

theorem Line.ordered_cons_iff {i : Instr} {rest : Line} :
    Line.ordered (i :: rest) = true ↔
      (∃ a, i.slot = some a ∧ ∀ j ∈ rest.head?, ∃ b, j.slot = some b ∧ a < b) ∧
        rest.ordered = true := by
  cases rest with
  | nil => simp [Line.ordered, Option.isSome_iff_exists]
  | cons j rest =>
    rw [Line.ordered, Bool.and_eq_true]
    cases hi : i.slot <;> cases hj : j.slot <;> simp [hj]

end Sys2Proof

namespace Sys2Proof.Machine

/-- An ordered line is one choice for each of the three slots of a cycle (30_encoding.md R76): the operation in
front has a slot before those of the line behind it, which therefore leaves that slot free. -/
theorem exists_line_of_ordered {l : Line} (h : l.ordered = true) :
    ∃ (b : Beside) (pop : Bool), l = b.line pop := by
  induction l with
  | nil => exact ⟨{}, false, rfl⟩
  | cons i rest ih =>
    obtain ⟨⟨a, slot, before⟩, tail⟩ := Line.ordered_cons_iff.1 h
    obtain ⟨⟨init, push⟩, pop, rfl⟩ := ih tail
    cases i using slotCases with
    | init =>
      obtain ⟨⟩ := slot
      obtain rfl : init = false := by cases init <;> simp [Beside.line, Instr.slot] at before ⊢
      exact ⟨⟨true, push⟩, pop, rfl⟩
    | pop =>
      obtain ⟨⟩ := slot
      obtain ⟨rfl, rfl⟩ : init = false ∧ pop = false := by
        cases init <;> cases pop <;> simp [Beside.line, Instr.slot] at before ⊢
      exact ⟨⟨false, push⟩, true, rfl⟩
    | push v =>
      obtain ⟨⟩ := slot
      obtain ⟨rfl, rfl, rfl⟩ : init = false ∧ pop = false ∧ push = none := by
        cases init <;> cases pop <;> cases push <;> simp [Beside.line, Instr.slot] at before ⊢
      exact ⟨⟨false, some v⟩, false, rfl⟩
    | slotless i hi => simp [hi] at slot

theorem ordered_line (b : Beside) (pop : Bool) : (b.line pop).ordered = true := by
  obtain ⟨init, push⟩ := b
  cases init <;> cases pop <;> cases push <;> rfl

/-! ### A word and its line -/

/-- What a word asks for beside a POP. -/
def besideOf (q : RequestWord) : Beside :=
  ⟨reqInit q, if reqPush q then some (reqData q) else none⟩

theorem besideOf_word (b : Beside) (pop : Bool) : besideOf (b.word pop) = b := by
  obtain ⟨init, pop, push, data⟩ := b.word_slots pop
  obtain ⟨i, p⟩ := b
  cases p with
  | none => simp [besideOf]
  | some d => simp [besideOf, data d rfl]

/-- The byte of a word that asks for no PUSH is zero: it was made of no operand (30_encoding.md R75). -/
theorem reqData_word_of_none {b : Beside} (noPush : b.push = none) (pop : Bool) :
    reqData (b.word pop) = 0#8 := by
  obtain ⟨init, push⟩ := b
  subst noPush
  cases init <;> cases pop <;> decide

/-- A word decodes to what its slots ask for, and to NOP if they ask for nothing (30_encoding.md R76). -/
theorem decode_eq_line (q : RequestWord) :
    decode q = if (besideOf q).line (reqPop q) = [] then [.nop] else (besideOf q).line (reqPop q) := by
  rw [decode_eq, Beside.line, besideOf]
  cases reqInit q <;> cases reqPop q <;> cases reqPush q <;> rfl

theorem decode_word {b : Beside} {pop : Bool} (asks : b.line pop ≠ []) :
    decode (b.word pop) = b.line pop := by
  rw [decode_eq_line, besideOf_word, Beside.reqPop_word, if_neg asks]

theorem wellFormed_decode (q : RequestWord) : (decode q).wellFormed = true := by
  rw [Line.wellFormed_iff, decode_eq_line]
  split
  · exact .inl rfl
  · next asks => exact .inr ⟨asks, ordered_line _ _⟩

/-- The canonical word of what a word asks for; NOP's is that of no operation (30_encoding.md R76). -/
theorem encodeLine_decode (q : RequestWord) :
    encodeLine (decode q) = (besideOf q).word (reqPop q) := by
  rw [decode_eq_line, Beside.word]
  split
  · next idle => rw [idle]; rfl
  · rfl

/-- Settles O49: a line is NOP or a choice for each slot, and each slot of its word is read back. -/
theorem decodeUndoesEncodeOfEveryLine : Obligations.DecodeUndoesEncodeOfEveryLine := by
  intro l h
  rcases Line.wellFormed_iff.1 h with rfl | ⟨asks, ordered⟩
  · decide
  · obtain ⟨b, pop, rfl⟩ := exists_line_of_ordered ordered
    exact decode_word asks

/-- The canonical word is the word itself with the byte of no PUSH zero (30_encoding.md R75). -/
theorem word_besideOf (q : RequestWord) :
    (besideOf q).word (reqPop q) = if reqPush q then q else q &&& 0x700#11 := by
  obtain ⟨init, pop, push, data⟩ := (besideOf q).word_slots (reqPop q)
  split
  · next asked =>
    have operand : (besideOf q).push = some (reqData q) := if_pos asked
    exact requestWord_ext init pop (by rw [push, operand, asked]; rfl) (data _ operand)
  · next notAsked =>
    have operand : (besideOf q).push = none := if_neg notAsked
    obtain ⟨init', pop', push', data'⟩ := fields_of_and_slotMask q
    exact requestWord_ext (init.trans init'.symm) (pop.trans pop'.symm)
      (by rw [push, operand, push', Bool.eq_false_iff.2 notAsked]; rfl)
      ((reqData_word_of_none operand _).trans data'.symm)

/-- A cycle knows its word by the decoded line alone. -/
theorem step_withRequest_congr {q p : RequestWord} (h : decode q = decode p) (s : State) :
    step (s.withRequest q) = step (s.withRequest p) := by
  rw [step_eq, step_eq, State.request_withRequest, State.request_withRequest, h]
  rfl

/-- Without a PUSH, the byte of a word plays no part in what it decodes to (30_encoding.md R75). -/
theorem decode_and_slotMask {q : RequestWord} (noPush : reqPush q = false) :
    decode (q &&& 0x700#11) = decode q := by
  obtain ⟨init, pop, push, -⟩ := fields_of_and_slotMask q
  rw [decode_eq_line, decode_eq_line, besideOf, besideOf, init, pop, push, noPush]
  rfl

/-- Settles O50: the word's slots make the line, and the line's slots make the canonical word. -/
theorem encodeUndoesDecodeUpToIgnoredBits : Obligations.EncodeUndoesDecodeUpToIgnoredBits := by
  intro q
  refine ⟨wellFormed_decode q, (encodeLine_decode q).trans (word_besideOf q), fun s noPush => ?_⟩
  exact step_withRequest_congr (decode_and_slotMask noPush).symm s

/-- Settles O51: each example word is the canonical word of its line, which O49 gives back. -/
theorem exampleWordsDecodeAsTheTableSays : Obligations.ExampleWordsDecodeAsTheTableSays := by
  have back := decodeUndoesEncodeOfEveryLine
  exact ⟨back [.nop] rfl, back [.push 0x41#8] rfl, back [.pop] rfl, back [.pop, .push 0x55#8] rfl,
    back [.init] rfl, back [.init, .push 0x41#8] rfl, back [.init, .pop] rfl,
    back [.init, .pop, .push 0x99#8] rfl⟩

end Sys2Proof.Machine
end

section
/-! PROOFS. Every operation, line and cycle ends in a next state, so that every sequence of request words runs
(45_cycle.md R140, 60_exceptions.md R160): O45. -/

namespace Sys2Proof.Machine

theorem exec_ends (i : Instr) (s : State) : ∃ u, exec i s = .next u := by
  cases i with
  | init | nop | isEmpty | isFull | level | capacity | status => exact ⟨_, rfl⟩
  | pop =>
    cases h : s.isEmpty with
    | true => exact ⟨_, execPop_of_empty h⟩
    | false => exact ⟨_, execPop_of_nonempty h⟩
  | push b =>
    cases h : s.isFull with
    | false => exact ⟨_, execPush_of_room h b⟩
    | true =>
      cases hp : s.cfg.policy with
      | dropNewest => exact ⟨_, execPush_of_drop h hp b⟩
      | overwriteOldest => exact ⟨_, execPush_of_displace h hp b⟩

theorem runLine_ends (l : Line) (s : State) : ∃ u, runLine l s = .next u := by
  induction l generalizing s with
  | nil => exact ⟨s, rfl⟩
  | cons i rest ih =>
    obtain ⟨m, hm⟩ := exec_ends i s
    rw [runLine_cons_next hm]
    exact ih m

theorem step_ends (s : State) : ∃ u, step s = .next u := by
  rw [step_eq]
  exact runLine_ends _ _

/-- Settles O45, by induction on the words: each cycle ends in a state from which the rest run. -/
theorem everyRequestSequenceRuns : Obligations.EveryRequestSequenceRuns := by
  intro s ws
  induction ws generalizing s with
  | nil => exact ⟨[], s, .done s, rfl⟩
  | cons q ws ih =>
    obtain ⟨m, first⟩ := step_ends (s.withRequest q)
    obtain ⟨tr, u, rest, words⟩ := ih m
    exact ⟨(q, m.rsp) :: tr, u, .cycle first rest, congrArg (q :: ·) words⟩

end Sys2Proof.Machine
end

section
/-! PROOFS. The response word (30_encoding.md R78): where its fields stand, and what a cycle can answer on the
ports of a PUSH: O36. -/

namespace Sys2Proof.Machine

/-- The three flags above the byte, the first the highest. -/
theorem getLsbD_ofBool_append (a b c : Bool) :
    (BitVec.ofBool a ++ BitVec.ofBool b ++ BitVec.ofBool c).getLsbD 2 = a ∧
      (BitVec.ofBool a ++ BitVec.ofBool b ++ BitVec.ofBool c).getLsbD 1 = b ∧
      (BitVec.ofBool a ++ BitVec.ofBool b ++ BitVec.ofBool c).getLsbD 0 = c := by
  decide +revert

theorem Response.word_fields (p : Response) :
    p.word.getLsbD 10 = p.pushOk ∧ p.word.getLsbD 9 = p.popOk ∧ p.word.getLsbD 8 = p.ovfEvent ∧
      p.word.extractLsb' 0 8 = p.popData := by
  have aboveByte {k : Nat} (h : ¬k < 8) : p.word.getLsbD k =
      (BitVec.ofBool p.pushOk ++ BitVec.ofBool p.popOk ++ BitVec.ofBool p.ovfEvent).getLsbD (k - 8) :=
    BitVec.getLsbD_append.trans (if_neg h)
  obtain ⟨pushOk, popOk, event⟩ := getLsbD_ofBool_append p.pushOk p.popOk p.ovfEvent
  exact ⟨(aboveByte (by decide)).trans pushOk, (aboveByte (by decide)).trans popOk,
    (aboveByte (by decide)).trans event, BitVec.extractLsb'_append_eq_right⟩

/-- A PUSH that is not answered with `push_ok` overflowed under DROP_NEWEST (42_push.md R107 to R110). -/
theorem execPush_pushOk {s u : State} {b : Byte} (e : exec (.push b) s = .next u) :
    u.rsp.pushOk = (!u.rsp.ovfEvent || decide (s.cfg.policy = .overwriteOldest)) := by
  rcases execPush_cases e with ⟨-, rfl⟩ | ⟨-, drop, rfl⟩ | ⟨-, displace, rfl⟩
  · rfl
  · simp [drop]
  · simp [displace]

/-- A cycle that asks for a PUSH answers as the PUSH does. -/
theorem step_pushOk_of_asked {s u : State} {q : RequestWord} (e : step (s.withRequest q) = .next u)
    (asked : reqPush q = true) :
    u.rsp.pushOk = (!u.rsp.ovfEvent || decide (s.cfg.policy = .overwriteOldest)) := by
  have cfg := step_withRequest_keeps_cfg e
  obtain ⟨s₁, s₂, -, -, push⟩ := step_stages e
  rw [asked] at push
  rw [execPush_pushOk push, ← exec_keeps_cfg push, cfg]

/-- A cycle that asks for no PUSH leaves the ports of a PUSH idle. -/
theorem step_push_ports_idle {s u : State} {q : RequestWord} (e : step (s.withRequest q) = .next u)
    (notAsked : reqPush q = false) : u.rsp.pushOk = false ∧ u.rsp.ovfEvent = false := by
  obtain ⟨s₁, s₂, init, pop, push⟩ := step_stages e
  rw [notAsked] at push
  obtain rfl : u = s₂ := push
  obtain ⟨pushOk, -, event⟩ := rsp_idle_after_init init
  exact push_ports_idle_after_pop pop pushOk event

/-- Settles O36: the ports of a PUSH are driven by a PUSH alone, and the policy says how. -/
theorem responseWordFieldsAndConstraints : Obligations.ResponseWordFieldsAndConstraints := by
  refine ⟨Response.word_fields, fun s u q e => ⟨fun answered => ?asked, fun drop asked => ?drop,
    fun overwrite asked => ?overwrite⟩⟩
  case asked =>
    by_contra notAsked
    obtain ⟨pushOk, event⟩ := step_push_ports_idle e (Bool.eq_false_iff.2 notAsked)
    simp [pushOk, event] at answered
  case drop => simp [step_pushOk_of_asked e asked, drop]
  case overwrite => simp [step_pushOk_of_asked e asked, overwrite]

end Sys2Proof.Machine
end

section
/-! PROOFS. INIT and NOP (40_init_nop.md R90, R91), and the requests that store no byte: O4, O5, O25. -/

namespace Sys2Proof

/-- A word asks for INIT exactly by its bit 10 (30_encoding.md R76). -/
theorem init_mem_decode_iff (q : RequestWord) : Instr.init ∈ decode q ↔ reqInit q = true := by
  simp [decode_eq]

/-- A word is NOP exactly when it asks for none of INIT, POP and PUSH (30_encoding.md R76). -/
theorem decode_eq_nop_iff (q : RequestWord) :
    decode q = [.nop] ↔ (!reqInit q && !reqPop q && !reqPush q) = true := by
  rw [decode_eq]
  cases reqInit q <;> cases reqPop q <;> cases reqPush q <;> simp

/-- The NOP row of the opcode table (30_encoding.md R76), read as a statement about the decoder. -/
theorem decode_eq_nop_iff_slots_clear (q : RequestWord) :
    decode q = [.nop] ↔ q &&& 0x700#11 = 0x000#11 := by
  obtain ⟨-, -, -, nopRow⟩ := requestRows_fits q
  rw [decode_eq_nop_iff, ← nopRow, RequestRow.fits, beq_iff_eq]

end Sys2Proof

namespace Sys2Proof.Machine

/-- Settles O4: both cursors are 0 after INIT, so the block reads as empty. -/
theorem initClearsControlStateOnly : Obligations.InitClearsControlStateOnly := by
  refine ⟨fun s => ⟨_, rfl, rfl, State.snapshot_of_cleared rfl rfl rfl rfl, ?queue, rfl⟩, fun q => ?word⟩
  case queue => exact (State.queue_eq_nil_iff _).2 (State.fill_of_cursors_eq rfl)
  case word =>
    obtain ⟨initRow, -⟩ := requestRows_fits q
    rw [init_mem_decode_iff, ← initRow, RequestRow.fits, beq_iff_eq]

/-- A cycle of a NOP word ends in the state it sampled: the responses it drives idle are idle already. -/
theorem step_of_nop_word {q : RequestWord} (idle : decode q = [.nop]) (s : State) :
    step (s.withRequest q) = .next (s.withRequest q).sampled := by
  rw [step_eq, State.request_withRequest, idle]
  rfl

/-- A run of NOP words writes the ports and the cycle index alone, and answers nothing (40_init_nop.md R91). -/
theorem Run.of_nop_words {s u : State} {tr : Trace} (run : Run s tr u)
    (idle : ∀ x ∈ tr, decode x.1 = [.nop]) :
    (∃ p st t, u = { s with rsp := p, stat := st, t := t }) ∧
      ∀ x ∈ tr, x.2.pushOk = false ∧ x.2.popOk = false ∧ x.2.ovfEvent = false := by
  induction run with
  | done s => exact ⟨⟨_, _, _, rfl⟩, fun _ hx => absurd hx List.not_mem_nil⟩
  | @cycle s _ _ q _ first _ ih =>
    obtain ⟨head, tail⟩ := List.forall_mem_cons.1 idle
    cases (step_of_nop_word (q := q) head s).symm.trans first
    obtain ⟨⟨p, st, t, rfl⟩, silent⟩ := ih tail
    exact ⟨⟨p, st, t, rfl⟩, List.forall_mem_cons.2 ⟨⟨rfl, rfl, rfl⟩, silent⟩⟩

/-- Settles O5: a NOP word decodes to NOP alone, and a run of such words writes the ports alone. -/
theorem nopWritesNothing : Obligations.NopWritesNothing := by
  refine ⟨decode_eq_nop_iff_slots_clear, fun s => rfl, fun s u tr words run => ?_⟩
  have idle : ∀ x ∈ tr, decode x.1 = [.nop] :=
    fun x hx => (decode_eq_nop_iff_slots_clear x.1).2 (words x hx)
  obtain ⟨⟨p, st, t, rfl⟩, silent⟩ := run.of_nop_words idle
  exact ⟨rfl, rfl, rfl, rfl, rfl, rfl, rfl, silent⟩

/-! ### The frame of NOP, INIT and POP -/

/-- A read of storage depends on the configuration and on what is stored alone. -/
theorem memRead_congr {s u : State} (hc : u.cfg = s.cfg) (hm : u.mem = s.mem) (a : Nat) :
    u.memRead a = s.memRead a := by
  rw [State.memRead, State.memRead, hc, hm]

/-- A POP moves no cursor but `r`, and that one only with a byte to return (43_pop.md R121, R123). -/
theorem execPop_cursors {s u : State} (e : exec .pop s = .next u) :
    u.w = s.w ∧ (s.isEmpty = true → u.r = s.r) := by
  rcases execPop_cases e with ⟨-, rfl⟩ | ⟨nonempty, rfl⟩
  · simp
  · simp [nonempty]

/-- NOP, INIT and POP write neither storage nor anything outside the block but the response ports. -/
theorem exec_frame_of_nonstoring {i : Instr} {s u : State} (hi : i = .nop ∨ i = .init ∨ i = .pop)
    (e : exec i s = .next u) :
    u.cfg = s.cfg ∧ u.reqs = s.reqs ∧ u.stat = s.stat ∧ u.t = s.t ∧ u.mem = s.mem := by
  rcases hi with rfl | rfl | rfl
  · cases e
    simp
  · rw [execInit_next e]
    simp
  · rcases execPop_cases e with ⟨-, rfl⟩ | ⟨-, rfl⟩ <;> simp

/-- Settles O25: the frame the three share, then what each of them leaves of the control state. -/
theorem nonStoringRequestsKeepStorage : Obligations.NonStoringRequestsKeepStorage := by
  intro i s u hi e
  obtain ⟨cfg, reqs, stat, t, mem⟩ := exec_frame_of_nonstoring hi e
  refine ⟨cfg, reqs, stat, t, memRead_congr cfg mem, mem, ?_⟩
  rcases hi with rfl | rfl | rfl
  · cases e
    simp
  · rw [execInit_next e]
    simp
  · obtain ⟨w, r⟩ := execPop_cursors e
    obtain ⟨ovf, pushOk, event⟩ := execPop_frame e
    have flag := execPop_hwm e
    refine ⟨fun _ => ⟨w, ovf⟩, nofun, nofun, fun _ =>
      ⟨pushOk, event, fun clear => ?_, fun empty => ⟨r empty, ?_⟩⟩⟩
    · simp [flag, clear]
    · simp [flag, empty]

end Sys2Proof.Machine
end

section
/-! PROOFS. The queries (41_queries.md): what each leaves unchanged, what the level is as an integer and as an
account of the bytes that came and went, and what ports `empty` and `full` say about the responses beside them:
O46, O6, O7, O8, O9, O24. -/

namespace Sys2Proof.Machine

/-! ### The accounting law -/

/-- Of the bytes that were in the queue or joined it, each is still in it or has left, popped or displaced. -/
theorem Passage.length_eq {before stored popped after : List Byte} {n : Nat}
    (h : Passage before stored popped n after) :
    after.length + popped.length + n = before.length + stored.length := by
  obtain ⟨out, order, rfl, rfl⟩ := h
  have leftEitherWay := List.length_eq_length_filter_add (l := out) (fun x => x.1)
  have lengths := congrArg List.length order
  simp only [List.length_append, List.length_map] at lengths ⊢
  omega

/-- Settles O46: INIT emptied the queue that the bytes of the run passed through, and the level is its length. -/
theorem levelIsStoredMinusPoppedMinusDisplaced :
    Obligations.LevelIsStoredMinusPoppedMinusDisplaced := by
  intro s u tr h since run
  have account := (run.passage_since_init h since).length_eq
  rw [State.length_queue, List.length_nil, Nat.zero_add] at account
  exact ⟨account, run.displaced_eq_zero⟩

/-! ### The status ports of a cycle -/

/-- The request operations drive no status port (30_encoding.md R77). -/
theorem exec_keeps_stat_of_isRequest {i : Instr} {s u : State} (hi : i.isRequest = true)
    (e : exec i s = .next u) : u.stat = s.stat := by
  have nonstoring (hi : i = .nop ∨ i = .init ∨ i = .pop) : u.stat = s.stat := by
    obtain ⟨-, -, stat, -⟩ := exec_frame_of_nonstoring hi e
    exact stat
  cases i with
  | nop => exact nonstoring (.inl rfl)
  | init => exact nonstoring (.inr (.inl rfl))
  | pop => exact nonstoring (.inr (.inr rfl))
  | push b => rcases execPush_cases e with ⟨-, rfl⟩ | ⟨-, -, rfl⟩ | ⟨-, -, rfl⟩ <;> simp
  | isEmpty | isFull | level | capacity | status => cases hi

theorem Performs.keeps_stat {asked : Bool} {i : Instr} {s u : State} (p : Performs asked i s u)
    (hi : i.isRequest = true) : u.stat = s.stat :=
  p.keeps (P := fun x => x.stat = s.stat) (exec_keeps_stat_of_isRequest hi) rfl

/-- Every cycle is one whose request word was put on the ports: the first of `reqs`, or NOP (log 5). -/
theorem step_eq_step_withRequest (s : State) :
    step s = step (State.withRequest { s with reqs := s.reqs.tail } s.request) := by
  rw [step_eq, step_eq]
  rfl

/-- The status ports of a cycle show the state it starts from (44_status.md R131). -/
theorem step_stat {s u : State} (e : step s = .next u) : u.stat = s.snapshot := by
  rw [step_eq_step_withRequest] at e
  obtain ⟨s₁, s₂, init, pop, push⟩ := step_stages e
  calc u.stat = s₂.stat := push.keeps_stat rfl
    _ = s₁.stat := pop.keeps_stat rfl
    _ = s.snapshot := init.keeps_stat rfl

/-! ### What a cycle without INIT answers -/

theorem execPop_popOk {s u : State} (e : exec .pop s = .next u) : u.rsp.popOk = !s.isEmpty := by
  rcases execPop_cases e with ⟨empty, rfl⟩ | ⟨nonempty, rfl⟩
  · simp [empty]
  · simp [nonempty]

/-- A POP that succeeds leaves room, and one that fails leaves the block as it was (43_pop.md R121, R123). -/
theorem execPop_isFull {s u : State} (h : s.Wf) (e : exec .pop s = .next u) :
    u.isFull = (!u.rsp.popOk && s.isFull) := by
  rcases execPop_cases e with ⟨-, rfl⟩ | ⟨nonempty, rfl⟩
  · rfl
  · simpa [State.isFull] using h.isFull_advanceR nonempty

/-- A PUSH stage leaves the ports of a POP alone. -/
theorem Performs.keeps_popOk {asked : Bool} {b : Byte} {s u : State}
    (p : Performs asked (.push b) s u) : u.rsp.popOk = s.rsp.popOk :=
  p.keeps (P := fun x => x.rsp.popOk = s.rsp.popOk) (fun e => (execPush_keeps_pop_ports e).1) rfl

/-- Without INIT, a POP succeeds exactly on a block that is not empty at the start (43_pop.md R121, R123). -/
theorem step_popOk {s u : State} {q : RequestWord} (noInit : reqInit q = false)
    (e : step (s.withRequest q) = .next u) : u.rsp.popOk = (reqPop q && !s.isEmpty) := by
  obtain ⟨s₁, s₂, init, pop, push⟩ := step_stages e
  rw [noInit] at init
  cases init
  rw [push.keeps_popOk]
  rcases performs_iff.1 pop with ⟨asked, e⟩ | ⟨notAsked, rfl⟩
  · rw [execPop_popOk e, asked]
    rfl
  · rw [notAsked]
    rfl

/-- Without INIT, a cycle overflows exactly when it asks for a PUSH, starts full, and its POP, if it asks for
one, makes no room (45_cycle.md R143). -/
theorem step_ovfEvent {s u : State} {q : RequestWord} (h : s.Wf) (noInit : reqInit q = false)
    (e : step (s.withRequest q) = .next u) :
    u.rsp.ovfEvent = (reqPush q && (!u.rsp.popOk && s.isFull)) := by
  cases asked : reqPush q with
  | false =>
    obtain ⟨-, event⟩ := step_push_ports_idle e asked
    exact event
  | true =>
    obtain ⟨s₁, s₂, init, pop, push⟩ := step_stages e
    rw [noInit] at init
    cases init
    have afterPop : s₂.isFull = (!s₂.rsp.popOk && s.isFull) := by
      rcases performs_iff.1 pop with ⟨-, e⟩ | ⟨-, rfl⟩
      · exact execPop_isFull (s := (s.withRequest q).sampled) h e
      · rfl
    rw [push.keeps_popOk, Bool.true_and, ← afterPop]
    rw [asked] at push
    obtain ⟨-, event⟩ := execPush_ovf push
    exact event

/-- Settles O6: port `empty` is the test the POP of the cycle makes. -/
theorem isEmptyAnswersCursorEquality : Obligations.IsEmptyAnswersCursorEquality := by
  refine ⟨fun s => rfl, fun s u e => ?afterInit, fun s h => ⟨?levelZero, fun full => ?notFull⟩,
    fun s u q noInit asked e => ?failingPop⟩
  case afterInit => rw [execInit_next e]
  case levelZero => rw [← s.isEmpty_iff_cursors, State.isEmpty_iff_fill h]
  case notFull =>
    rw [Ne, ← s.isEmpty_iff_cursors, State.isEmpty_eq_false_of_isFull h full]
    exact Bool.false_ne_true
  case failingPop =>
    have empty : u.stat.empty = s.isEmpty := congrArg Status.empty (step_stat e)
    rw [step_popOk noInit e, asked, empty, Bool.true_and, Bool.not_eq_false']

/-- Settles O7: port `full` is the test the PUSH of the cycle makes, unless a POP takes a byte off before it. -/
theorem isFullAnswersNextWriteIsRead : Obligations.IsFullAnswersNextWriteIsRead := by
  refine ⟨fun s => rfl, fun s => State.isFull_iff_fill, fun s u e => ?afterInit,
    fun s u q h noInit asked e => ?overflow⟩
  case afterInit =>
    rw [execInit_next e]
    exact State.isFull_eq_false_of_cursors_zero rfl rfl
  case overflow =>
    have full : u.stat.full = s.isFull := congrArg Status.full (step_stat e)
    have event := step_ovfEvent h noInit e
    rw [asked, ← full, Bool.true_and] at event
    exact ⟨fun failed => by simp [event, failed], fun succeeded => by simp [event, succeeded]⟩

/-! ### LEVEL and CAPACITY -/

/-- Subtraction modulo `N` (00_scope.md R13) is that of the integers. -/
theorem natCast_distance {c : Config} {a b : Nat} (h : b ≤ a + c.n) :
    (distance c a b : Int) = ((a : Int) - b) % c.n := by
  rw [distance, c.and_mask, Int.natCast_mod, Int.natCast_sub h, Int.natCast_add, add_sub_right_comm,
    Int.add_emod_right]

/-- Settles O8: the level is the cursors' distance, and `N` more than `w` is not below `r`. -/
theorem levelAnswersCursorDifferenceModN : Obligations.LevelAnswersCursorDifferenceModN := by
  intro s h
  obtain ⟨-, ltr, -⟩ := h
  have level : (s.fill : Int) = ((s.w : Int) - s.r) % s.cfg.n :=
    natCast_distance (ltr.le.trans (Nat.le_add_left _ _))
  refine ⟨?_, s.fill_lt⟩
  rw [← level, Int.toNat_natCast]
  rfl

/-- Settles O9: `N` is a constant of the build, and the level is below it. -/
theorem capacityAnswersN : Obligations.CapacityAnswersN := by
  intro s
  refine ⟨rfl, ?usable, fun u e => ⟨congrArg Status.capacity (step_stat e), by rw [step_keeps_cfg e]⟩⟩
  case usable => exact s.length_queue.le.trans (Nat.le_sub_one_of_lt s.fill_lt)

/-! ### The frame of the queries -/

/-- A query writes no state: it drives status ports alone (41_queries.md R95). -/
theorem exec_of_query {i : Instr} {s u : State} (hi : i.isRequest = false)
    (e : exec i s = .next u) : ∃ st, u = { s with stat := st } := by
  cases i with
  | nop | init | pop | push => cases hi
  | isEmpty | isFull | level | capacity | status => cases e; exact ⟨_, rfl⟩

/-- Settles O24: the frame the five share, then the ports that each of them does not drive. -/
theorem queriesWriteOnlyTheirPorts : Obligations.QueriesWriteOnlyTheirPorts := by
  intro i s u hi e
  have query : i.isRequest = false := by rcases hi with rfl | rfl | rfl | rfl | rfl <;> rfl
  obtain ⟨st, rfl⟩ := exec_of_query query e
  refine ⟨rfl, rfl, rfl, rfl, rfl, rfl, rfl, rfl, fun _ => rfl, rfl, ?ports⟩
  case ports => rcases hi with rfl | rfl | rfl | rfl | rfl <;> cases e <;> simp

end Sys2Proof.Machine
end

section
/-! PROOFS. PUSH (42_push.md): the exact next state of a plain store, of a displacing store and of a dropped byte,
what the counter and `push_ok` say about it, and what it leaves unchanged: O14, O16, O17, O18, O26, O15. -/

namespace Sys2Proof.Machine

/-! ### The named updates of a PUSH -/

/-- The advance is the successor modulo `N` (10_state.md R23). -/
theorem advance_eq_mod (c : Config) (x : Nat) : advance c x = (x + 1) % c.n := c.and_mask _

/-- Storing at a write cursor in range writes the slot of its own number (42_push.md R107). -/
theorem State.Wf.storeByte_eq {s : State} (h : s.Wf) (b : Byte) :
    s.storeByte b = { s with mem := Memory.write s.mem s.w b, w := (s.w + 1) % s.cfg.n } := by
  obtain ⟨ltw, -⟩ := h
  rw [State.storeByte, State.memWrite, State.advanceW, slotOf_of_lt ltw, advance_eq_mod]

@[simp] theorem State.raiseHwm_memRead (s : State) (a : Nat) : s.raiseHwm.memRead a = s.memRead a :=
  memRead_congr s.raiseHwm_cfg s.raiseHwm_mem a

@[simp] theorem State.respondPush_memRead (s : State) (ok ev : Bool) (a : Nat) :
    (s.respondPush ok ev).memRead a = s.memRead a := rfl

@[simp] theorem State.storeByte_memRead_same (s : State) (b : Byte) :
    (s.storeByte b).memRead s.w = b :=
  memRead_of_write_same (a := s.w) rfl rfl

/-- A full block has its read cursor right after the write cursor (10_state.md R30). -/
theorem State.advance_w_eq_r_of_isFull {s : State} (full : s.isFull = true) :
    advance s.cfg s.w = s.r := eq_of_beq full

/-- The slot a displacing PUSH stores in is not the one of the byte it displaces (42_push.md R109). -/
theorem State.Wf.slotOf_r_ne_storeSlot {s : State} (h : s.Wf) (nonempty : s.isEmpty = false) :
    slotOf s.cfg s.r ≠ s.storeSlot := by
  have apart := s.isEmpty_iff_cursors.not.1 (by simp [nonempty])
  obtain ⟨ltw, ltr, -⟩ := h
  rw [State.storeSlot, slotOf_of_lt ltw, slotOf_of_lt ltr]
  exact Ne.symm apart

/-! ### The three next states -/

/-- Settles O14: the store, the level it reaches and the flag looked at there. -/
theorem pushWithRoomStoresAtWriteCursor : Obligations.PushWithRoomStoresAtWriteCursor := by
  intro s b h room
  refine ⟨_, execPush_of_room room b, ?state, ?slot, ?level, ?queue⟩
  case state =>
    rw [State.raiseHwm_eq, h.fill_storeByte room, h.storeByte_eq]
    rfl
  case slot => simp
  case level => simp [h.fill_storeByte room]
  case queue => simp [h.queue_storeByte room]

/-- Settles O16: the read cursor moves on first, so the store finds room; a full block is not empty, so the two
cursors name different slots. -/
theorem pushOnFullOverwritesTheOldest : Obligations.PushOnFullOverwritesTheOldest := by
  intro s b h full displace
  refine ⟨_, execPush_of_displace full displace b, ?state, h.fill_displace full b,
    h.queue_displace full b, ?slot, State.advance_w_eq_r_of_isFull full, ?displaced⟩
  case state =>
    rw [h.countOverflow.advanceR.storeByte_eq, State.advanceR, advance_eq_mod]
    rfl
  case slot => exact s.countOverflow.advanceR.storeByte_memRead_same b
  case displaced =>
    exact memRead_of_write_other (a := s.w) rfl rfl
      (h.slotOf_r_ne_storeSlot (State.isEmpty_eq_false_of_isFull h full))

/-- Settles O15: a dropped byte leaves the counted overflow and the two response ports. -/
theorem pushOnFullDropsTheNewest : Obligations.PushOnFullDropsTheNewest :=
  fun _ b full drop => execPush_of_drop full drop b

/-! ### What the counter and `push_ok` say -/

/-- Settles O17: the counter saturates at its maximum, and below it goes up by one. -/
theorem pushCountsOverflowExactlyWhenFull : Obligations.PushCountsOverflowExactlyWhenFull := by
  intro s u b _ e
  obtain ⟨ovf, event⟩ := execPush_ovf e
  refine ⟨event, fun room => ?_, fun full below => ?_, fun full atMax => ?_⟩
  · simpa [room] using ovf
  · rw [ovf, if_pos full]
    exact min_eq_left below
  · rw [ovf, if_pos full, saturate, Config.ovfMax, ← atMax]
    exact min_eq_right s.ovf.le_succ

/-- Settles O18, along the three ways a PUSH ends. -/
theorem pushOkMeansTheByteIsStored : Obligations.PushOkMeansTheByteIsStored := by
  intro s u b h e
  rcases execPush_cases e with ⟨room, rfl⟩ | ⟨full, drop, rfl⟩ | ⟨full, displace, rfl⟩
  · simp [room, h.queue_storeByte room]
  · simp [full, drop]
  · simp [displace, h.queue_displace full]

/-! ### The frame of PUSH -/

/-- A PUSH writes no storage but the slot at the write cursor, and nothing outside the block but the response
ports (42_push.md R105). -/
theorem execPush_frame {s u : State} {b : Byte} (e : exec (.push b) s = .next u) :
    u.cfg = s.cfg ∧ u.reqs = s.reqs ∧ u.stat = s.stat ∧ u.t = s.t ∧
      (u.mem = s.mem ∨ u.mem = Memory.write s.mem s.storeSlot b) := by
  rcases execPush_cases e with ⟨-, rfl⟩ | ⟨-, -, rfl⟩ | ⟨-, -, rfl⟩
  · simp
  · simp
  · exact ⟨rfl, rfl, rfl, rfl, .inr rfl⟩

/-- A dropped byte moves no cursor and is stored nowhere (42_push.md R110). -/
theorem execPush_keeps_cursors_mem_of_drop {s u : State} {b : Byte} (full : s.isFull = true)
    (drop : s.cfg.policy = .dropNewest) (e : exec (.push b) s = .next u) :
    u.w = s.w ∧ u.r = s.r ∧ u.mem = s.mem := by
  cases (execPush_of_drop full drop b).symm.trans e
  exact ⟨rfl, rfl, rfl⟩

theorem execPush_keeps_r_of_room {s u : State} {b : Byte} (room : s.isFull = false)
    (e : exec (.push b) s = .next u) : u.r = s.r := by
  cases (execPush_of_room room b).symm.trans e
  simp

/-- Settles O26: the frame every PUSH shares, then what each of its three ends leaves besides. -/
theorem pushKeepsEveryOtherSlot : Obligations.PushKeepsEveryOtherSlot := by
  intro s u b e
  obtain ⟨cfg, reqs, stat, t, mem⟩ := execPush_frame e
  obtain ⟨popOk, popData⟩ := execPush_keeps_pop_ports e
  obtain ⟨ovf, -⟩ := execPush_ovf e
  refine ⟨cfg, reqs, stat, t, popOk, popData, fun a other => ?slots, fun full drop => ?dropped,
    fun kept => ?readCursor, fun room => ?counter, fun full => ?flag⟩
  case slots =>
    rcases mem with same | stored
    · exact memRead_congr cfg same a
    · exact memRead_of_write_other cfg stored other
  case dropped =>
    obtain ⟨w, -, same⟩ := execPush_keeps_cursors_mem_of_drop full drop e
    exact ⟨memRead_congr cfg same, w⟩
  case readCursor =>
    rcases Bool.eq_false_or_eq_true s.isFull with full | room
    · obtain ⟨-, r, -⟩ := execPush_keeps_cursors_mem_of_drop full (kept.resolve_left (by simp [full])) e
      exact r
    · exact execPush_keeps_r_of_room room e
  case counter => simpa [room] using ovf
  case flag => simpa [full] using execPush_hwm e

end Sys2Proof.Machine
end

section
/-! PROOFS. POP (43_pop.md): the exact next state of a POP that returns a byte, and of one that fails: O19, O20. -/

namespace Sys2Proof.Machine

/-- Settles O19: the watermark flag is looked at after the advance, at a level one below the old one. -/
theorem popReturnsTheOldestByte : Obligations.PopReturnsTheOldestByte := by
  intro s h nonempty
  have lower : s.advanceR.fill + 1 = s.fill := h.fill_advanceR nonempty
  refine ⟨_, execPop_of_nonempty nonempty, ?state, ?level, ?queue⟩
  case state =>
    have newLevel : s.advanceR.fill = s.fill - 1 := Nat.eq_sub_of_add_eq lower
    rw [State.lowerHwm_eq, newLevel, State.advanceR, advance_eq_mod]
    rfl
  case level => simp [lower]
  case queue => simpa using h.queue_eq_oldest_cons nonempty

/-- Settles O20: a POP that fails drives its two response ports, the data port with the free value of the cycle. -/
theorem popOnEmptyChangesNothing : Obligations.PopOnEmptyChangesNothing :=
  fun _ empty => execPop_of_empty empty

end Sys2Proof.Machine
end

section
/-! PROOFS. STATUS (44_status.md): the four values it answers, the ports of a cycle as one snapshot of its start,
and that NOP cycles leave the snapshot as it is: O30, O31, O10. -/

namespace Sys2Proof.Machine

/-! ### The ports of a cycle -/

/-- The request words to come and the cycle index belong to the cycle: no operation writes them (log 5, log 7). -/
theorem exec_keeps_reqs_t {i : Instr} {s u : State} (e : exec i s = .next u) :
    u.reqs = s.reqs ∧ u.t = s.t := by
  induction i using slotCases with
  | init => rw [execInit_next e]; exact ⟨rfl, rfl⟩
  | pop =>
    obtain ⟨-, reqs, -, t, -⟩ := exec_frame_of_nonstoring (.inr (.inr rfl)) e
    exact ⟨reqs, t⟩
  | push b =>
    obtain ⟨-, reqs, -, t, -⟩ := execPush_frame e
    exact ⟨reqs, t⟩
  | slotless i hi =>
    obtain ⟨p, st, rfl⟩ := exec_of_slot_none hi e
    exact ⟨rfl, rfl⟩

/-- A cycle uses up one request word and is counted (log 5, log 7). -/
theorem step_reqs_t {s u : State} (e : step s = .next u) : u.reqs = s.reqs.tail ∧ u.t = s.t + 1 :=
  step_keeps (P := fun x => x.reqs = s.reqs.tail ∧ x.t = s.t + 1)
    (fun ⟨reqs, t⟩ e =>
      let ⟨reqs', t'⟩ := exec_keeps_reqs_t e
      ⟨reqs'.trans reqs, t'.trans t⟩)
    ⟨rfl, rfl⟩ e

/-- Settles O30: the ports show the snapshot of the start, and the thresholds and `N` are constants of the build. -/
theorem statusShowsTheStartOfTheCycle : Obligations.StatusShowsTheStartOfTheCycle := by
  intro s u e
  rw [step_stat e, step_keeps_cfg e]
  exact ⟨rfl, rfl, id, rfl, step_reqs_t e⟩

/-! ### NOP cycles -/

/-- The snapshot reads none of what a NOP word writes (40_init_nop.md R91). -/
theorem Run.snapshot_of_nop_words {s u : State} {tr : Trace} (run : Run s tr u)
    (idle : ∀ x ∈ tr, decode x.1 = [.nop]) : u.snapshot = s.snapshot := by
  obtain ⟨⟨p, st, t, rfl⟩, -⟩ := run.of_nop_words idle
  rfl

/-- Settles O31: the ports of the next cycle are the snapshot of `u`, a request on the wires does not change it,
and the NOP cycles kept it. -/
theorem statusIsIdempotentOverNopCycles : Obligations.StatusIsIdempotentOverNopCycles := by
  intro s u v tr q words run e
  calc v.stat = (u.withRequest q).snapshot := step_stat e
    _ = u.snapshot := rfl
    _ = s.snapshot := run.snapshot_of_nop_words fun x hx =>
      (decode_eq_nop_iff_slots_clear x.1).2 (words x hx)

/-! ### The operation STATUS -/

/-- Settles O10: the level is the masked difference of the cursors, and the percentage is its floor. -/
theorem statusAnswersFourValues : Obligations.StatusAnswersFourValues := by
  intro s
  have level : (s.w + s.cfg.n - s.r) &&& (s.cfg.n - 1) = s.fill := rfl
  rw [level]
  rfl

end Sys2Proof.Machine
end

section
/-! PROOFS. One cycle (45_cycle.md): it is INIT, then POP, then PUSH, each if asked for; what the combinations of
requests come to; and that no output depends on the byte pushed: O28, O29, O33, O32, O37. -/

namespace Sys2Proof.Machine

/-! ### The decoded operations of a cycle -/

/-- A request operation is what its canonical word decodes to (30_encoding.md R75, R76). -/
theorem decode_encode {i : Instr} (hi : i.isRequest = true) : decode (encode i) = [i] := by
  cases i with
  | nop => exact Laws.RoundTrip.nop hi
  | init => exact Laws.RoundTrip.init hi
  | pop => exact Laws.RoundTrip.pop hi
  | push b => exact Laws.RoundTrip.push b hi
  | isEmpty | isFull | level | capacity | status => cases hi

theorem runLine_singleton (i : Instr) (s : State) : runLine [i] s = exec i s := by
  obtain ⟨u, e⟩ := exec_ends i s
  rw [runLine_cons_next e, runLine_nil, e]

/-- The word on the ports is taken from them before any operation acts, and no operation sees it (log 5). -/
theorem State.sampled_withRequest (s : State) (q : RequestWord) :
    (s.withRequest q).sampled = { s with
      t := s.t + 1
      rsp := ⟨false, false, false, Config.unspecified8 (s.t + 1)⟩
      stat := s.snapshot } := rfl

/-- Settles O28: a canonical word decodes to its operation alone. -/
theorem stepRunsTheDecodedOperations : Obligations.StepRunsTheDecodedOperations := by
  have decoded (s : State) (q : RequestWord) :
      step (s.withRequest q) = runLine (decode q) (s.withRequest q).sampled := step_eq _
  refine ⟨decoded, fun s i hi => ?_⟩
  rw [decoded, decode_encode hi, runLine_singleton, State.sampled_withRequest]

/-- Settles O29: every cycle ends, and its stages are those of `step_stages`. -/
theorem stepIsInitThenPopThenPush : Obligations.StepIsInitThenPopThenPush := by
  intro s q
  obtain ⟨s₃, e⟩ := step_ends (s.withRequest q)
  obtain ⟨s₁, s₂, init, pop, push⟩ := step_stages e
  exact ⟨_, s₁, s₂, s₃, rfl, init, pop, push, e, step_stat (s := s.withRequest q) e⟩

/-! ### INIT with other requests -/

/-- In a cycle with INIT a POP meets an empty block and repeats the idle answer, so the PUSH acts on what INIT left
whether a POP is asked for or not (45_cycle.md R144). -/
theorem step_init_push_stages {s u : State} {q : RequestWord} (init : reqInit q = true)
    (e : step (s.withRequest q) = .next u) :
    ∃ s₁, exec .init (s.withRequest q).sampled = .next s₁ ∧
      Performs (reqPush q) (.push (reqData q)) s₁ u := by
  obtain ⟨s₁, s₂, cleared, pop, push⟩ := step_stages e
  rw [init] at cleared
  refine ⟨s₁, cleared, ?_⟩
  rcases performs_iff.1 pop with ⟨-, failed⟩ | ⟨-, rfl⟩
  · obtain rfl := execInit_next cleared
    rw [execPop_of_empty rfl] at failed
    cases failed
    exact push
  · exact push

theorem State.queue_of_fill_eq_one {s : State} (one : s.fill = 1) : s.queue = [s.memRead s.r] := by
  simp [State.queue, one]

theorem advance_zero (c : Config) : advance c 0 = 1 := by
  have two := c.two_le_n
  rw [advance_eq c.n_pos, if_neg (by omega)]

theorem distance_one_zero (c : Config) : distance c 1 0 = 1 := by
  rw [distance_eq c.two_le_n c.n_pos, if_pos (Nat.zero_le 1)]

/-- A PUSH on a block with both cursors at 0, whatever its storage holds (45_cycle.md R144). -/
theorem execPush_of_cursors_zero {s u : State} {b : Byte} (hw : s.w = 0) (hr : s.r = 0)
    (e : exec (.push b) s = .next u) :
    u.w = 1 ∧ u.r = 0 ∧ u.fill = 1 ∧ u.memRead 0 = b ∧ u.queue = [b] ∧ u.ovf = s.ovf ∧
      u.hwm = (s.hwm || decide (s.cfg.high ≤ 1)) ∧
      u.rsp = { s.rsp with pushOk := true, ovfEvent := false } := by
  have room := State.isFull_eq_false_of_cursors_zero hw hr
  cases (execPush_of_room room b).symm.trans e
  have level : (s.storeByte b).fill = 1 := by
    rw [State.fill, State.storeByte_cfg, State.storeByte_w, State.storeByte_r, hw, hr, advance_zero,
      distance_one_zero]
  have slot : (s.storeByte b).memRead 0 = b := hw ▸ s.storeByte_memRead_same b
  have queue : (s.storeByte b).queue = [b] := by
    rw [State.queue_of_fill_eq_one level, State.storeByte_r, hr, slot]
  simp [hw, hr, advance_zero, level, slot, queue]

/-- Settles O33: with a PUSH the cleared block has room, and without one it is where the cycle ends. -/
theorem initWithOtherRequestsInOneCycle : Obligations.InitWithOtherRequestsInOneCycle := by
  intro s u q init e
  obtain ⟨s₁, cleared, push⟩ := step_init_push_stages init e
  obtain rfl := execInit_next cleared
  rcases performs_iff.1 push with ⟨asked, push⟩ | ⟨notAsked, rfl⟩
  · obtain ⟨w, r, level, slot, queue, ovf, flag, rsp⟩ := execPush_of_cursors_zero rfl rfl push
    have order := s.cfg.low_lt_high
    have atLeastOne : u.hwm = true ↔ s.cfg.high ≤ 1 := by
      rw [flag]
      exact decide_eq_true_iff
    exact ⟨r, ovf, by rw [rsp]; rfl, by rw [rsp], by rw [rsp, asked], by simp [asked],
      fun _ => ⟨w, level, slot, queue, atLeastOne.trans (by omega)⟩⟩
  · refine ⟨rfl, rfl, rfl, rfl, notAsked.symm, fun _ => ⟨rfl, rfl, rfl, ?queue⟩, by simp [notAsked]⟩
    case queue => exact (State.queue_eq_nil_iff _).2 (State.fill_of_cursors_eq rfl)

/-! ### POP and PUSH -/

/-- After a POP there is room: it took a byte off, or there was none (45_cycle.md R143). -/
theorem State.Wf.isFull_after_pop {s m : State} (h : s.Wf) (pop : exec .pop s = .next m) :
    m.isFull = false := by
  rw [execPop_isFull h pop, execPop_popOk pop, Bool.not_not, Bool.and_eq_false_iff]
  rcases Bool.eq_false_or_eq_true s.isFull with full | room
  · exact .inl (State.isEmpty_eq_false_of_isFull h full)
  · exact .inr room

/-- A POP lowers the level by one, down to 0. -/
theorem execPop_fill {s m : State} (h : s.Wf) (pop : exec .pop s = .next m) :
    m.fill = s.fill - 1 := by
  rw [← State.length_queue, exec_queue h pop, queueAfter, List.length_tail, State.length_queue]

section PopPush
variable {s m u : State} {b : Byte} (h : s.Wf) (pop : exec .pop s = .next m)
  (push : exec (.push b) m = .next u)
include h pop push

/-- The PUSH after a POP is a plain store. -/
theorem execPop_execPush_eq : u = (m.storeByte b).raiseHwm.respondPush true false := by
  cases (execPush_of_room (h.isFull_after_pop pop) b).symm.trans push
  rfl

/-- What a PUSH after a POP does, whether or not the POP returned a byte. -/
theorem execPop_execPush_store :
    u.rsp.pushOk = true ∧ u.rsp.ovfEvent = false ∧ u.ovf = s.ovf ∧ u.w = (s.w + 1) % s.cfg.n ∧
      u.memRead s.w = b := by
  obtain ⟨w, -⟩ := execPop_cursors pop
  obtain ⟨ovf, -⟩ := execPop_frame pop
  have cfg := exec_keeps_cfg pop
  rw [execPop_execPush_eq h pop push, ← w, ← cfg, ← ovf, ← advance_eq_mod]
  simp

/-- The POP takes the head off the queue, if there is one, and the PUSH appends its byte. -/
theorem execPop_execPush_queue : u.queue = s.queue.tail ++ [b] := by
  have room := h.isFull_after_pop pop
  have popped : m.queue = s.queue.tail := exec_queue h pop
  rw [execPop_execPush_eq h pop push, State.respondPush_queue, State.raiseHwm_queue,
    (exec_keeps_wf h pop).queue_storeByte room, popped]

theorem execPop_execPush_fill : u.fill = s.fill - 1 + 1 := by
  rw [← State.length_queue, execPop_execPush_queue h pop push, List.length_append, List.length_tail,
    State.length_queue, List.length_singleton]

theorem execPop_execPush_of_empty (empty : s.isEmpty = true) :
    u.rsp.popOk = false ∧ u.r = s.r ∧ u.fill = 1 ∧ u.queue = [b] := by
  obtain ⟨-, r⟩ := execPop_cursors pop
  obtain ⟨popOk, -⟩ := execPush_keeps_pop_ports push
  refine ⟨?popOk, ?r, ?level, ?queue⟩
  case popOk => rw [popOk, execPop_popOk pop, empty, Bool.not_true]
  case r => rw [execPush_keeps_r_of_room (h.isFull_after_pop pop) push, r empty]
  case level => rw [execPop_execPush_fill h pop push, (State.isEmpty_iff_fill h).1 empty]
  case queue =>
    rw [execPop_execPush_queue h pop push, (State.isEmpty_iff_queue h).1 empty, List.tail_nil,
      List.nil_append]

theorem execPop_execPush_of_nonempty (nonempty : s.isEmpty = false) :
    u.rsp.popOk = true ∧ u.rsp.popData = s.memRead s.r ∧ u.r = (s.r + 1) % s.cfg.n ∧
      u.fill = s.fill ∧ u.queue = s.queue.tail ++ [b] := by
  have level := execPop_execPush_fill h pop push
  have queue := execPop_execPush_queue h pop push
  have lower := h.fill_advanceR nonempty
  obtain rfl := execPop_execPush_eq h pop push
  cases (execPop_of_nonempty nonempty).symm.trans pop
  exact ⟨by simp, by simp [State.oldest], by simp [advance_eq_mod], by omega, queue⟩

/-- The flag is looked at one below the level by the POP, then at the level by the PUSH (45_cycle.md R143). -/
theorem execPop_execPush_hwm_iff (nonempty : s.isEmpty = false) :
    u.hwm = true ↔ (s.hwm = true ∧ s.cfg.low < s.fill - 1) ∨ s.cfg.high ≤ s.fill := by
  have room := h.isFull_after_pop pop
  obtain ⟨-, -, -, level, -⟩ := execPop_execPush_of_nonempty h pop push nonempty
  rw [execPush_hwm push, execPop_hwm pop, room, nonempty, exec_keeps_cfg pop, level, execPop_fill h pop]
  simp only [Bool.not_false, Bool.true_and, Bool.or_eq_true, Bool.and_eq_true, Bool.not_eq_true',
    decide_eq_true_eq, decide_eq_false_iff_not, not_le]

/-- Where flag and level were consistent, the PUSH can set the flag only where the POP has just cleared it. -/
theorem execPop_execPush_hwm_of_hysteresis (hy : s.Hysteresis) (nonempty : s.isEmpty = false) :
    (s.hwm = false → u.hwm = false) ∧
      (s.hwm = true → (u.hwm = true ↔
        s.cfg.low < s.fill - 1 ∨ (s.fill = s.cfg.high ∧ s.cfg.high = s.cfg.low + 1))) := by
  have flag := execPop_execPush_hwm_iff h pop push nonempty
  have order := s.cfg.low_lt_high
  obtain ⟨below, -⟩ := hy
  refine ⟨fun clear => ?_, fun set => ?_⟩
  · have lt := below clear
    rw [← Bool.not_eq_true, flag]
    simp [clear, lt]
  · rw [flag]
    simp only [set, true_and]
    omega

end PopPush

/-- Settles O32: without INIT the cycle is the POP of the sampled state and the PUSH after it. -/
theorem popThenPushInOneCycle : Obligations.PopThenPushInOneCycle := by
  intro s u q h noInit asksPop asksPush e
  obtain ⟨s₁, m, init, pop, push⟩ := step_stages e
  rw [noInit] at init
  rw [asksPop] at pop
  rw [asksPush] at push
  cases init
  have wf : (s.withRequest q).sampled.Wf := h
  obtain ⟨pushOk, event, ovf, w, slot⟩ := execPop_execPush_store wf pop push
  have fromEmpty := execPop_execPush_of_empty wf pop push
  have otherwise := execPop_execPush_of_nonempty wf pop push
  have flag := execPop_execPush_hwm_of_hysteresis wf pop push
  exact ⟨pushOk, event, ovf, w, slot, fromEmpty, otherwise, fun ⟨_, hy, _⟩ => flag hy⟩

/-! ### What the outputs depend on -/

/-- A stage has one end. -/
theorem Performs.unique {asked : Bool} {i : Instr} {s u v : State} (pu : Performs asked i s u)
    (pv : Performs asked i s v) : u = v := by
  cases asked with
  | true => cases pu.symm.trans pv; rfl
  | false => exact Eq.trans pu pv.symm

/-- Words that agree on INIT and POP bring the block to one and the same state before the PUSH. -/
theorem step_push_of_same_init_pop {s u v : State} {q p : RequestWord} (init : reqInit q = reqInit p)
    (pop : reqPop q = reqPop p) (eu : step (s.withRequest q) = .next u)
    (ev : step (s.withRequest p) = .next v) :
    ∃ m, Performs (reqPush q) (.push (reqData q)) m u ∧
      Performs (reqPush p) (.push (reqData p)) m v := by
  obtain ⟨s₁, s₂, initU, popU, pushU⟩ := step_stages eu
  obtain ⟨v₁, v₂, initV, popV, pushV⟩ := step_stages ev
  rw [init] at initU
  rw [pop] at popU
  obtain rfl := initU.unique initV
  obtain rfl := popU.unique popV
  exact ⟨s₂, pushU, pushV⟩

/-- PUSHes of different bytes differ in storage alone. -/
theorem execPush_eq_up_to_mem {s u v : State} {b c : Byte} (eu : exec (.push b) s = .next u)
    (ev : exec (.push c) s = .next v) : v = { u with mem := v.mem } := by
  rcases execPush_cases eu with ⟨room, rfl⟩ | ⟨full, drop, rfl⟩ | ⟨full, displace, rfl⟩
  · cases (execPush_of_room room c).symm.trans ev
    rw [State.raiseHwm_eq, State.raiseHwm_eq]
    rfl
  · cases (execPush_of_drop full drop c).symm.trans ev
    rfl
  · cases (execPush_of_displace full displace c).symm.trans ev
    rfl

/-- Words that agree on the three slots bring the block to states that differ in storage alone. -/
theorem step_eq_up_to_mem {s u v : State} {q p : RequestWord} (init : reqInit q = reqInit p)
    (pop : reqPop q = reqPop p) (push : reqPush q = reqPush p)
    (eu : step (s.withRequest q) = .next u) (ev : step (s.withRequest p) = .next v) :
    v = { u with mem := v.mem } := by
  obtain ⟨m, pu, pv⟩ := step_push_of_same_init_pop init pop eu ev
  rw [push] at pu
  rcases performs_iff.1 pv with ⟨asked, ev⟩ | ⟨notAsked, rfl⟩
  · rw [asked] at pu
    exact execPush_eq_up_to_mem pu ev
  · rw [notAsked] at pu
    cases pu
    rfl

/-- A POP that succeeds returns the byte at the read cursor of the start of the cycle: an INIT before it would
have made it fail (45_cycle.md R147). -/
theorem step_popData {s u : State} {q : RequestWord} (e : step (s.withRequest q) = .next u)
    (popOk : u.rsp.popOk = true) : u.rsp.popData = s.oldest := by
  obtain ⟨s₁, s₂, init, pop, push⟩ := step_stages e
  obtain ⟨-, idle, -⟩ := rsp_idle_after_init init
  have ports : u.rsp.popOk = s₂.rsp.popOk ∧ u.rsp.popData = s₂.rsp.popData :=
    push.keeps (P := fun x => x.rsp.popOk = s₂.rsp.popOk ∧ x.rsp.popData = s₂.rsp.popData)
      execPush_keeps_pop_ports ⟨rfl, rfl⟩
  obtain ⟨samePopOk, samePopData⟩ := ports
  rw [samePopOk] at popOk
  rw [samePopData]
  rcases performs_iff.1 pop with ⟨-, popped⟩ | ⟨-, rfl⟩
  · rcases execPop_cases popped with ⟨-, rfl⟩ | ⟨nonempty, rfl⟩
    · cases popOk
    · rcases performs_iff.1 init with ⟨-, cleared⟩ | ⟨-, rfl⟩
      · rw [execInit_next cleared] at nonempty
        cases nonempty
      · rfl
  · simp [idle] at popOk

/-- Settles O37: the status ports show the start of the cycle, the POP answers before the PUSH acts, and the byte
of a PUSH goes to storage alone. -/
theorem outputsDoNotDependOnPushData : Obligations.OutputsDoNotDependOnPushData := by
  intro s u v q p eu ev
  refine ⟨?status, fun init pop => ?popOk, fun okU okV => ?popData, fun init pop push => ?control⟩
  case status => exact (step_stat eu).trans (step_stat ev).symm
  case popOk =>
    obtain ⟨m, pushU, pushV⟩ := step_push_of_same_init_pop init pop eu ev
    rw [pushU.keeps_popOk, pushV.keeps_popOk]
  case popData => rw [step_popData eu okU, step_popData ev okV]
  case control =>
    rw [step_eq_up_to_mem init pop push eu ev]
    exact ⟨rfl, rfl, rfl, rfl, rfl, rfl⟩

end Sys2Proof.Machine
end

section
/-! PROOFS. The environment's pseudo-operations (46_transport_adapter.md R151 to R153): what a cycle of one operation
does, how the turns of a drain run, and what a drain forwards with nobody beside it and with a producer beside it:
O52, O53, O54, O55, O56. -/

namespace Sys2Proof.Machine

/-! ### Cycles of one operation -/

/-- The cycle of an operation's canonical word performs that operation alone (45_cycle.md R140). -/
theorem step_withRequest_encode {i : Instr} (hi : i.isRequest = true) (s : State) :
    step (s.withRequest (encode i)) = exec i (s.withRequest (encode i)).sampled := by
  rw [step_eq, State.request_withRequest, decode_encode hi, runLine_singleton]

/-- Settles O52: MONITOR is the cycle of a NOP word. -/
theorem monitorNeverMutatesTheBuffer : Obligations.MonitorNeverMutatesTheBuffer :=
  fun s => ⟨_, step_of_nop_word (decode_encode rfl) s, rfl, rfl, rfl, rfl, rfl, rfl, rfl, rfl⟩

/-- A cycle that asks for no POP answers none. -/
theorem step_popOk_of_not_asked {s u : State} {q : RequestWord} (e : step (s.withRequest q) = .next u)
    (notAsked : reqPop q = false) : u.rsp.popOk = false := by
  obtain ⟨s₁, s₂, init, pop, push⟩ := step_stages e
  rw [notAsked] at pop
  obtain rfl : s₂ = s₁ := pop
  obtain ⟨-, idle, -⟩ := rsp_idle_after_init init
  exact push.keeps_popOk.trans idle

/-- A PUSH leaves the block with a byte in it, whether it stores its own or drops it for want of room. -/
theorem execPush_nonempty {s u : State} {b : Byte} (h : s.Wf) (e : exec (.push b) s = .next u) :
    u.isEmpty = false := by
  rcases execPush_cases e with ⟨room, rfl⟩ | ⟨full, -, rfl⟩ | ⟨full, -, rfl⟩
  · rw [← Bool.not_eq_true, State.isEmpty_iff_queue (exec_keeps_wf h e)]
    simp [h.queue_storeByte room]
  · exact State.isEmpty_eq_false_of_isFull (exec_keeps_wf h e) full
  · rw [← Bool.not_eq_true, State.isEmpty_iff_queue (exec_keeps_wf h e)]
    simp [h.queue_displace full]

/-- A cycle leaves the block not empty if it pushes, and also if it started so and asks for neither INIT nor POP. -/
theorem step_nonempty {s u : State} {q : RequestWord} (h : s.Wf) (e : step (s.withRequest q) = .next u)
    (bytes : reqPush q = true ∨ (reqInit q = false ∧ reqPop q = false ∧ s.isEmpty = false)) :
    u.isEmpty = false := by
  obtain ⟨s₁, s₂, init, pop, push⟩ := step_stages e
  rcases performs_iff.1 push with ⟨-, e⟩ | ⟨notAsked, rfl⟩
  · exact execPush_nonempty (pop.keeps_wf (init.keeps_wf h)) e
  · obtain ⟨noInit, noPop, nonempty⟩ := bytes.resolve_left (by simp [notAsked])
    rw [noInit] at init
    rw [noPop] at pop
    cases init
    cases pop
    exact nonempty

/-! ### Runs -/

theorem Run.append {s m u : State} {tr ts : Trace} (first : Run s tr m) (rest : Run m ts u) :
    Run s (tr ++ ts) u := by
  induction first with
  | done => exact rest
  | cycle e _ ih => exact .cycle e (ih rest)

/-- A run that asks for no POP answers none. -/
theorem Run.popOk_of_not_asked {s u : State} {tr : Trace} (run : Run s tr u)
    (noPop : ∀ x ∈ tr, reqPop x.1 = false) : ∀ x ∈ tr, x.2.popOk = false := by
  induction run with
  | done => exact fun _ hx => absurd hx List.not_mem_nil
  | cycle e _ ih =>
    obtain ⟨head, tail⟩ := List.forall_mem_cons.1 noPop
    exact List.forall_mem_cons.2 ⟨step_popOk_of_not_asked e head, ih tail⟩

theorem Trace.popped_append (tr ts : Trace) : Trace.popped (tr ++ ts) = tr.popped ++ ts.popped :=
  List.filterMap_append

/-- A run that asks for neither INIT nor POP leaves the block not empty, if it starts so or pushes once. -/
theorem Run.nonempty {s u : State} {tr : Trace} (run : Run s tr u) (h : s.Wf)
    (pushesOnly : ∀ q ∈ tr.map Prod.fst, reqInit q = false ∧ reqPop q = false)
    (bytes : s.isEmpty = false ∨ ∃ q ∈ tr.map Prod.fst, reqPush q = true) : u.isEmpty = false := by
  induction run with
  | done => simpa using bytes
  | @cycle s m u q tr e _ ih =>
    obtain ⟨⟨noInit, noPop⟩, tail⟩ := List.forall_mem_cons.1 pushesOnly
    refine ih (step_withRequest_keeps_wf h e) tail ?_
    rcases bytes with nonempty | pushes
    · exact .inl (step_nonempty h e (.inr ⟨noInit, noPop, nonempty⟩))
    · rcases (List.exists_mem_cons_iff ..).1 pushes with now | later
      · exact .inl (step_nonempty h e (.inl now))
      · exact .inr later

/-! ### A turn of the drain -/

/-- The sink blocks for a run of its cycles' words. -/
theorem waitOut_run (waits : List Beside) (s : State) :
    ∃ tr u, waitOut waits s = .next u ∧ Run s tr u ∧ tr.map Prod.fst = waits.map (·.word false) := by
  induction waits generalizing s with
  | nil => exact ⟨[], s, rfl, .done s, rfl⟩
  | cons b rest ih =>
    obtain ⟨m, first⟩ := step_ends (s.withRequest (b.word false))
    obtain ⟨tr, u, waited, run, words⟩ := ih m
    refine ⟨(b.word false, m.rsp) :: tr, u, ?_, .cycle first run, congrArg (b.word false :: ·) words⟩
    rw [waitOut, first]
    exact waited

/-- The two ways a turn goes (46_transport_adapter.md R152): its POP fails and ends the drain, or it returns a
byte, which is forwarded, and the drain goes on after the cycles of the blocking sink. -/
theorem drainTo_cons (d : DrainRound) (rest : List DrainRound) (sent : List Byte) (s : State) :
    ∃ m, step (s.withRequest (d.withPop.word true)) = .next m ∧
      (m.rsp.popOk = false → drainTo (d :: rest) sent s = .next ⟨sent, true, m⟩) ∧
      (m.rsp.popOk = true → ∃ tr u, Run m tr u ∧ tr.map Prod.fst = d.waits.map (·.word false) ∧
        drainTo (d :: rest) sent s = drainTo rest (sent ++ [m.rsp.popData]) u) := by
  obtain ⟨m, first⟩ := step_ends (s.withRequest (d.withPop.word true))
  obtain ⟨tr, u, waited, run, words⟩ := waitOut_run d.waits m
  rw [drainTo, first]
  exact ⟨m, rfl, fun failed => by simp [failed], fun ok => ⟨tr, u, run, words, by simp [ok, waited]⟩⟩

/-! ### A drain is a run -/

/-- Every POP asked for returned a byte. -/
abbrev Trace.PopsSucceed (tr : Trace) : Prop := ∀ x ∈ tr, reqPop x.1 = true → x.2.popOk = true

/-- The last POP asked for failed, in the last cycle, and no POP before it did. -/
def Trace.StopsAtFailedPop (tr : Trace) : Prop :=
  ∃ (before : Trace) (x : RequestWord × Response),
    tr = before ++ [x] ∧ before.PopsSucceed ∧ reqPop x.1 = true ∧ x.2.popOk = false

theorem Trace.StopsAtFailedPop.append {tr ts : Trace} (ok : tr.PopsSucceed) (h : ts.StopsAtFailedPop) :
    Trace.StopsAtFailedPop (tr ++ ts) := by
  obtain ⟨before, x, rfl, before_ok, last⟩ := h
  exact ⟨tr ++ before, x, (List.append_assoc ..).symm, List.forall_mem_append.2 ⟨ok, before_ok⟩, last⟩

/-- The cycles of a turn whose POP returned a byte: that byte is all they return, and no POP of theirs fails. -/
theorem exists_run_of_turn {s m u : State} {d : DrainRound} {tr : Trace}
    (first : step (s.withRequest (d.withPop.word true)) = .next m) (ok : m.rsp.popOk = true)
    (run : Run m tr u) (words : tr.map Prod.fst = d.waits.map (·.word false)) :
    ∃ turn : Trace, Run s turn u ∧ turn.map Prod.fst = d.words ∧ turn.PopsSucceed ∧
      turn.popped = [m.rsp.popData] := by
  have noPop : ∀ x ∈ tr, reqPop x.1 = false := by
    have ofWords : ∀ q ∈ tr.map Prod.fst, reqPop q = false := by simp [words]
    exact List.forall_mem_map.1 ofWords
  have silent := run.popOk_of_not_asked noPop
  refine ⟨_, .cycle first run, congrArg (d.withPop.word true :: ·) words,
    List.forall_mem_cons.2 ⟨fun _ => ok, fun x hx asked => ?_⟩, ?_⟩
  · simp [noPop x hx] at asked
  · have popsNothing : tr.popped = [] := List.filterMap_eq_nil_iff.2 fun x hx => by simp [silent x hx]
    simp [ok, popsNothing]

/-- A drain is a run of its turns' words, which forwards what its POPs return: of all of them, no POP failing, or
of those up to the first POP that fails (46_transport_adapter.md R152). -/
theorem drainTo_run (rounds : List DrainRound) (sent : List Byte) (s : State) :
    ∃ tr finished u, drainTo rounds sent s = .next ⟨sent ++ tr.popped, finished, u⟩ ∧ Run s tr u ∧
      if finished then tr.map Prod.fst <+: rounds.flatMap DrainRound.words ∧ tr.StopsAtFailedPop
      else tr.map Prod.fst = rounds.flatMap DrainRound.words ∧ tr.PopsSucceed := by
  induction rounds generalizing sent s with
  | nil => exact ⟨[], false, s, by simp [drainTo, Trace.popped], .done s, by simp⟩
  | cons d rest ih =>
    obtain ⟨m, first, ends, goesOn⟩ := drainTo_cons d rest sent s
    rcases Bool.eq_false_or_eq_true m.rsp.popOk with ok | failed
    · obtain ⟨waits, w, run, words, drained⟩ := goesOn ok
      obtain ⟨turn, turnRun, turnWords, turnOk, turnPopped⟩ := exists_run_of_turn first ok run words
      obtain ⟨tr, finished, u, restDrained, restRun, shape⟩ := ih (sent ++ [m.rsp.popData]) w
      refine ⟨turn ++ tr, finished, u, ?drained, turnRun.append restRun, ?shape⟩
      case drained => rw [drained, restDrained, Trace.popped_append, turnPopped, List.append_assoc]
      case shape =>
        rw [List.map_append, turnWords, List.flatMap_cons]
        cases finished with
        | true =>
          obtain ⟨words, stops⟩ := shape
          exact ⟨(List.prefix_append_right_inj _).2 words, stops.append turnOk⟩
        | false =>
          obtain ⟨words, ok⟩ := shape
          exact ⟨congrArg (d.words ++ ·) words, List.forall_mem_append.2 ⟨turnOk, ok⟩⟩
    · refine ⟨[(d.withPop.word true, m.rsp)], true, m, ?drained, .cycle first (.done m), ?words, ?stops⟩
      case drained => simp [ends failed, failed, Trace.popped]
      case words => simp [DrainRound.words]
      case stops => exact ⟨[], _, rfl, by simp, Beside.reqPop_word _ _, failed⟩

/-- Settles O55: the run of the drain, read at its last cycle. -/
theorem drainIsARunThatStopsAtTheFirstFailedPop : Obligations.DrainIsARunThatStopsAtTheFirstFailedPop := by
  refine ⟨Beside.word_slots, fun s rounds => ?_⟩
  obtain ⟨tr, finished, u, drained, run, shape⟩ := drainTo_run rounds [] s
  refine ⟨_, tr, drained, run, rfl, ?_⟩
  cases finished with
  | true =>
    obtain ⟨words, before, x, rfl, ok, asked, failed⟩ := shape
    refine ⟨words, nofun, by rwa [List.dropLast_concat], iff_of_true rfl ⟨x, ?_, asked, failed⟩⟩
    exact List.getLast?_concat
  | false =>
    obtain ⟨words, ok⟩ := shape
    refine ⟨words ▸ List.prefix_rfl, fun _ => words, fun x hx => ok x (List.mem_of_mem_dropLast hx),
      iff_of_false Bool.false_ne_true ?_⟩
    rintro ⟨x, last, asked, failed⟩
    simp [ok x (List.mem_of_getLast? last) asked] at failed

/-! ### A drain with nobody beside it -/

/-- In a quiet turn the POP cycle asks for POP alone, and the others ask for nothing. -/
theorem DrainRound.quiet_words {d : DrainRound} (h : d.quiet = true) :
    d.withPop.word true = encode .pop ∧ ∀ q ∈ d.waits.map (·.word false), decode q = [.nop] := by
  simp only [DrainRound.quiet, Bool.and_eq_true, beq_iff_eq, List.all_eq_true] at h
  obtain ⟨alone, waits⟩ := h
  obtain ⟨pop, nop⟩ := Beside.word_quiet
  refine ⟨alone ▸ pop, List.forall_mem_map.2 fun b hb => ?_⟩
  rw [waits b hb, nop]
  exact decode_encode rfl

/-- A cycle of a POP alone fails on an empty block, and otherwise takes the head off the queue (43_pop.md R121,
R123). -/
theorem step_pop {s m : State} (h : s.Wf) (e : step (s.withRequest (encode .pop)) = .next m) :
    m.ovf = s.ovf ∧ ((m.rsp.popOk = false ∧ s.queue = [] ∧ m.isEmpty = true) ∨
      (m.rsp.popOk = true ∧ s.queue = m.rsp.popData :: m.queue)) := by
  rw [step_withRequest_encode rfl] at e
  obtain ⟨ovf, -⟩ := execPop_frame e
  refine ⟨ovf, ?_⟩
  rcases execPop_cases e with ⟨empty, rfl⟩ | ⟨nonempty, rfl⟩
  · exact .inl ⟨rfl, (State.isEmpty_iff_queue h).1 empty, empty⟩
  · refine .inr ⟨rfl, (h.queue_eq_oldest_cons nonempty).trans ?_⟩
    rw [State.respondPop_queue, State.lowerHwm_queue]
    rfl

/-- With more quiet turns than live bytes, a drain sends the queue after what it has sent, and ends on an empty
block (46_transport_adapter.md R152). -/
theorem drainTo_of_quiet {rounds : List DrainRound} {s : State} (sent : List Byte) (h : s.Wf)
    (quiet : ∀ d ∈ rounds, d.quiet = true) (enough : s.queue.length < rounds.length) :
    ∃ u, drainTo rounds sent s = .next ⟨sent ++ s.queue, true, u⟩ ∧ u.isEmpty = true ∧ u.ovf = s.ovf := by
  induction rounds generalizing sent s with
  | nil => exact absurd enough (Nat.not_lt_zero _)
  | cons d rest ih =>
    obtain ⟨quietTurn, quietRest⟩ := List.forall_mem_cons.1 quiet
    obtain ⟨pop, nops⟩ := DrainRound.quiet_words quietTurn
    obtain ⟨m, first, ends, goesOn⟩ := drainTo_cons d rest sent s
    rw [pop] at first
    obtain ⟨ovf, ⟨failed, noBytes, empty⟩ | ⟨ok, head⟩⟩ := step_pop h first
    · exact ⟨m, by rw [ends failed, noBytes, List.append_nil], empty, ovf⟩
    · obtain ⟨waits, w, run, words, drained⟩ := goesOn ok
      have wf : w.Wf := run.keeps_wf (step_withRequest_keeps_wf h first)
      obtain ⟨⟨p, st, t, rfl⟩, -⟩ := run.of_nop_words (List.forall_mem_map.1 (words ▸ nops))
      have queue : s.queue = m.rsp.popData :: State.queue { m with rsp := p, stat := st, t := t } := head
      rw [queue, List.length_cons, List.length_cons, Nat.add_lt_add_iff_right] at enough
      obtain ⟨u, restDrained, empty, ovf'⟩ := ih (sent ++ [m.rsp.popData]) wf quietRest enough
      exact ⟨u, by rw [drained, restDrained, queue, List.append_assoc]; rfl, empty, ovf'.trans ovf⟩

/-- Settles O53, by induction on the turns: each takes the head off the queue, until the queue is empty. -/
theorem drainForwardsTheQueueAndEmptiesIt : Obligations.DrainForwardsTheQueueAndEmptiesIt :=
  fun s _ h quiet enough => drainTo_of_quiet [] h quiet (s.length_queue.trans_lt enough)

/-! ### The round trip -/

/-- A received byte that finds room is appended to the queue, and the counter stays (42_push.md R107). -/
theorem onByteReceived_of_room {s : State} (h : s.Wf) (room : s.queue.length < s.cfg.usable) (b : Byte) :
    ∃ u, onByteReceived b s = .next u ∧ u.Wf ∧ u.cfg = s.cfg ∧ u.queue = s.queue ++ [b] ∧ u.ovf = s.ovf := by
  obtain ⟨u, received⟩ := step_ends (s.withRequest (encode (.push b)))
  refine ⟨u, received, step_withRequest_keeps_wf h received, step_withRequest_keeps_cfg received, ?queue, ?ovf⟩
  case queue =>
    rw [everyCycleActsOnTheQueueInOrder s u _ h received, decode_encode rfl]
    exact queueAfter_push_of_room room.ne b
  case ovf =>
    rw [step_withRequest_encode rfl] at received
    obtain ⟨ovf, -⟩ := execPush_ovf received
    have notFull : (s.withRequest (encode (.push b))).sampled.isFull = false :=
      Bool.eq_false_iff.2 ((State.isFull_iff_length_queue h).not.2 room.ne)
    rw [ovf, notFull]
    rfl

/-- Bytes for which there is room are stored one after another (46_transport_adapter.md R151). -/
theorem receiveAll_of_room {s : State} {bs : List Byte} (h : s.Wf)
    (room : s.queue.length + bs.length ≤ s.cfg.usable) :
    ∃ u, receiveAll bs s = .next u ∧ u.Wf ∧ u.queue = s.queue ++ bs ∧ u.ovf = s.ovf := by
  induction bs generalizing s with
  | nil => exact ⟨s, rfl, h, (List.append_nil _).symm, rfl⟩
  | cons b rest ih =>
    rw [List.length_cons] at room
    obtain ⟨m, received, wf, cfg, queue, ovf⟩ := onByteReceived_of_room h (by omega) b
    obtain ⟨u, restReceived, wf', queue', ovf'⟩ :=
      ih wf (by rw [queue, cfg, List.length_append, List.length_singleton]; omega)
    refine ⟨u, ?_, wf', by rw [queue', queue, List.append_assoc]; rfl, ovf'.trans ovf⟩
    rw [receiveAll, received]
    exact restReceived

/-- Settles O54: what an empty block has received is its queue, and a quiet drain forwards the queue. -/
theorem roundTripUpToUsableCapacity : Obligations.RoundTripUpToUsableCapacity := by
  intro s bs rounds h empty fits quiet turns
  have noBytes : s.queue = [] := (State.isEmpty_iff_queue h).1 empty
  obtain ⟨u, received, wf, queue, ovf⟩ := receiveAll_of_room (bs := bs) h (by simpa [noBytes] using fits)
  rw [noBytes, List.nil_append] at queue
  obtain ⟨v, drained, empty', -⟩ := drainTo_of_quiet [] wf quiet (by rw [queue, turns]; exact Nat.lt_succ_self _)
  rw [queue, List.nil_append] at drained
  exact ⟨u, v, received, queue, ovf, drained, empty'⟩

/-! ### A drain beside a producer -/

/-- A turn in which the producer pushes, with no INIT while the sink blocks, ends on a block that is not empty:
in the POP cycle the PUSH comes after the POP (45_cycle.md R143), and later there is no POP. -/
theorem nonempty_after_turn {s m u : State} {d : DrainRound} {tr : Trace} (h : s.Wf)
    (noInit : ∀ b ∈ d.waits, b.init = false)
    (pushes : ∃ b ∈ d.withPop :: d.waits, b.push.isSome = true)
    (first : step (s.withRequest (d.withPop.word true)) = .next m) (run : Run m tr u)
    (words : tr.map Prod.fst = d.waits.map (·.word false)) : u.isEmpty = false := by
  refine run.nonempty (step_withRequest_keeps_wf h first) ?pushesOnly ?bytes
  case pushesOnly => simpa [words] using noInit
  case bytes =>
    rcases (List.exists_mem_cons_iff ..).1 pushes with now | later
    · exact .inl (step_nonempty h first (.inl (by simpa using now)))
    · exact .inr (by simpa [words] using later)

/-- While the producer pushes in every turn, each of them forwards a byte and leaves one behind
(46_transport_adapter.md R152). -/
theorem drainTo_of_pushes {rounds : List DrainRound} {s : State} (sent : List Byte) (h : s.Wf)
    (nonempty : s.isEmpty = false) (noInit : ∀ d ∈ rounds, ∀ b ∈ d.withPop :: d.waits, b.init = false)
    (pushes : ∀ d ∈ rounds, ∃ b ∈ d.withPop :: d.waits, b.push.isSome = true) :
    ∃ d, drainTo rounds sent s = .next d ∧ d.finished = false ∧
      d.sent.length = sent.length + rounds.length ∧ d.state.isEmpty = false := by
  induction rounds generalizing sent s with
  | nil => exact ⟨_, rfl, rfl, rfl, nonempty⟩
  | cons d rest ih =>
    obtain ⟨noInitTurn, noInitRest⟩ := List.forall_mem_cons.1 noInit
    obtain ⟨noInitPop, noInitWaits⟩ := List.forall_mem_cons.1 noInitTurn
    obtain ⟨pushesTurn, pushesRest⟩ := List.forall_mem_cons.1 pushes
    obtain ⟨m, first, -, goesOn⟩ := drainTo_cons d rest sent s
    have popOk : m.rsp.popOk = true := by
      rw [step_popOk (by simpa using noInitPop) first, Beside.reqPop_word, nonempty]
      rfl
    obtain ⟨waits, w, run, words, drained⟩ := goesOn popOk
    have wf : w.Wf := run.keeps_wf (step_withRequest_keeps_wf h first)
    obtain ⟨r, restDrained, unfinished, length, left⟩ := ih (sent ++ [m.rsp.popData]) wf
      (nonempty_after_turn h noInitWaits pushesTurn first run words) noInitRest pushesRest
    refine ⟨r, drained.trans restDrained, unfinished, ?_, left⟩
    rw [length, List.length_append, List.length_singleton, List.length_cons, Nat.add_assoc, Nat.add_comm 1]

/-- Settles O56, by induction on the turns: each starts and ends on a block that is not empty. -/
theorem drainNeedNotEndWhileTheProducerPushes : Obligations.DrainNeedNotEndWhileTheProducerPushes := by
  intro s rounds h nonempty noInit pushes
  simpa using drainTo_of_pushes [] h nonempty noInit pushes

end Sys2Proof.Machine
end

section
/-! PROOFS. What the block never does, and what its ports say beforehand (60_exceptions.md R160, R161, R168;
70_reset_and_hazards.md R191, R195): O2, O27, O22, O34, O35. -/

namespace Sys2Proof

/-! ### The configuration error -/

/-- The parameters break the constraint of 00_scope.md R8 that the error names (60_exceptions.md R161). -/
def Params.Breaks (p : Params) : ConfigError → Prop
  | .notPowerOfTwo => ∀ k, p.n ≠ 2 ^ k
  | .tooFewSlots => p.n < 2
  | .thresholdOrder => p.high ≤ p.low
  | .thresholdTooHigh => p.n < p.high
  | .noCounterBits => p.cw < 1

theorem Params.powerOfTwo_iff (p : Params) : p.powerOfTwo = true ↔ ∃ k, p.n = 2 ^ k := by
  rw [← ne_zero_and_and_sub_one_iff_two_pow]
  simp [Params.powerOfTwo]

/-- The constraints are tried one by one, and the first that fails is named: ill-formed parameters fail one. -/
theorem Params.exists_error_of_not_wellFormed {p : Params} (bad : ¬p.wellFormed = true) :
    ∃ e, p.error? = some e ∧ p.Breaks e := by
  unfold Params.error?
  split_ifs with pow two order high bits
  · refine ⟨_, rfl, fun k hk => ?_⟩
    simp [p.powerOfTwo_iff.2 ⟨k, hk⟩] at pow
  · exact ⟨_, rfl, two⟩
  · exact ⟨_, rfl, order⟩
  · exact ⟨_, rfl, high⟩
  · exact ⟨_, rfl, bits⟩
  · have isPow : p.powerOfTwo = true := by simpa using pow
    exact absurd (p.wellFormed_iff_two_pow.2 ⟨p.powerOfTwo_iff.1 isPow, not_lt.1 two, not_le.1 order,
      not_lt.1 high, not_lt.1 bits⟩) bad

theorem Params.breaks_of_buildConfig_eq_error {p : Params} {e : ConfigError}
    (h : buildConfig p = .error e) : p.Breaks e := by
  by_cases good : p.wellFormed = true
  · cases (buildConfig_of_wellFormed good).symm.trans h
  · obtain ⟨e', named, broken⟩ := Params.exists_error_of_not_wellFormed good
    rw [buildConfig_of_not_wellFormed good, named] at h
    cases h
    exact broken

/-- Settles O2: the error that is answered is the one whose test failed. -/
theorem buildErrorNamesABrokenConstraint : Obligations.BuildErrorNamesABrokenConstraint := by
  intro p e h
  have broken := Params.breaks_of_buildConfig_eq_error h
  refine ⟨?_, ?_, ?_, ?_, ?_⟩ <;> (rintro rfl; exact broken)

end Sys2Proof

namespace Sys2Proof.Machine

/-! ### Every cycle completes -/

/-- Settles O27: every operation ends in a next state, and a cycle is a line of operations. -/
theorem everyOperationAndEveryCycleCompletes : Obligations.EveryOperationAndEveryCycleCompletes :=
  ⟨exec_ends, step_ends⟩

/-! ### The threshold `HIGH = N` -/

/-- Only a PUSH sets the flag, and only at a level of at least `HIGH`, which is always below `N`
(42_push.md R114). -/
theorem exec_keeps_hwm_clear {i : Instr} {s u : State} (high : s.cfg.high = s.cfg.n)
    (clear : s.hwm = false) (e : exec i s = .next u) : u.hwm = false := by
  induction i using slotCases with
  | init => rw [execInit_next e]
  | pop => rw [execPop_hwm e, clear, Bool.false_and]
  | push b =>
    have below : ¬s.cfg.high ≤ u.fill := by
      rw [high, ← exec_keeps_cfg e]
      exact not_le.2 u.fill_lt
    rw [execPush_hwm e, clear, decide_eq_false below, Bool.and_false, Bool.or_false]
  | slotless i hi => exact (exec_keeps_hwm_of_slot_none hi e).trans clear

/-- Settles O22: every operation of the cycle keeps the flag clear, and the configuration as it is. -/
theorem thresholdAtNNeverSetsTheFlag : Obligations.ThresholdAtNNeverSetsTheFlag := by
  intro s u _ high clear e
  obtain ⟨-, kept⟩ : u.cfg.high = u.cfg.n ∧ u.hwm = false :=
    step_keeps (P := fun x => x.cfg.high = x.cfg.n ∧ x.hwm = false)
      (fun ⟨high, clear⟩ e => ⟨by rw [exec_keeps_cfg e, high], exec_keeps_hwm_clear high clear e⟩)
      ⟨high, clear⟩ e
  exact kept

/-! ### An overflow and what shares its cycle -/

/-- With INIT neither a POP succeeds nor a PUSH overflows (45_cycle.md R144). -/
theorem step_init_popOk_ovfEvent {s u : State} {q : RequestWord} (init : reqInit q = true)
    (e : step (s.withRequest q) = .next u) : u.rsp.popOk = false ∧ u.rsp.ovfEvent = false := by
  obtain ⟨-, -, popOk, event, -⟩ := initWithOtherRequestsInOneCycle s u q init e
  exact ⟨popOk, event⟩

/-- A cycle overflows exactly when it starts full and asks for a PUSH alone: INIT empties the block, and a POP of a
full block makes room. -/
theorem step_ovfEvent_iff {s u : State} {q : RequestWord} (h : s.Wf)
    (e : step (s.withRequest q) = .next u) :
    u.rsp.ovfEvent = true ↔
      reqInit q = false ∧ reqPop q = false ∧ reqPush q = true ∧ s.isFull = true := by
  cases init : reqInit q with
  | true => simp [(step_init_popOk_ovfEvent init e).2]
  | false =>
    rw [step_ovfEvent h init e, step_popOk init e]
    cases full : s.isFull with
    | true => simp [State.isEmpty_eq_false_of_isFull h full, and_comm]
    | false => simp

/-- Settles O34: an overflowing cycle asks for a PUSH alone. -/
theorem overflowSharesItsCycleWithNoPopOrInit : Obligations.OverflowSharesItsCycleWithNoPopOrInit := by
  intro s u q h e
  have alone : u.rsp.ovfEvent = true → reqPop q = false ∧ reqInit q = false ∧ reqPush q = true := by
    rw [step_ovfEvent_iff h e]
    exact fun ⟨noInit, noPop, asked, _⟩ => ⟨noPop, noInit, asked⟩
  have noOverflow (asked : reqPop q = true) : u.rsp.ovfEvent = false := by
    rw [Bool.eq_false_iff]
    intro event
    obtain ⟨noPop, -⟩ := alone event
    exact Bool.false_ne_true (noPop.symm.trans asked)
  refine ⟨fun asked _ => noOverflow asked, fun ok => noOverflow ?asked, alone⟩
  case asked =>
    by_contra notAsked
    rw [step_popOk_of_not_asked e (Bool.eq_false_iff.2 notAsked)] at ok
    cases ok

/-! ### What `full` and `empty` predict -/

/-- A PUSH succeeds exactly when it is asked for and does not overflow, or overflows and displaces a byte. -/
theorem step_pushOk_iff {s u : State} {q : RequestWord} (e : step (s.withRequest q) = .next u) :
    u.rsp.pushOk = true ↔
      reqPush q = true ∧ (u.rsp.ovfEvent = false ∨ s.cfg.policy = .overwriteOldest) := by
  cases asked : reqPush q with
  | true => simp [step_pushOk_of_asked e asked]
  | false => simp [(step_push_ports_idle e asked).1]

/-- Settles O35: the ports show the start of the cycle; without INIT the POP meets that state, and without a POP so
does the PUSH. -/
theorem fullAndEmptyPredictOnlyPlainCycles : Obligations.FullAndEmptyPredictOnlyPlainCycles := by
  intro s u q h e
  have full : u.stat.full = s.isFull := congrArg Status.full (step_stat e)
  have empty : u.stat.empty = s.isEmpty := congrArg Status.empty (step_stat e)
  refine ⟨fun noInit noPop => ?push, fun noInit => ?pop, fun _ popOk asked => ?pushBesidePop,
    fun _ init _ => ?popBesideInit⟩
  case push =>
    rw [step_pushOk_iff e, full, ← Bool.not_eq_true, step_ovfEvent_iff h e]
    simp +contextual [noInit, noPop]
  case pop => rw [step_popOk noInit e, empty, Bool.and_eq_true, Bool.not_eq_true']
  case pushBesidePop =>
    obtain ⟨-, noOverflow, -⟩ := overflowSharesItsCycleWithNoPopOrInit s u q h e
    exact (step_pushOk_iff e).2 ⟨asked, .inl (noOverflow popOk)⟩
  case popBesideInit =>
    obtain ⟨popOk, -⟩ := step_init_popOk_ovfEvent init e
    exact popOk

end Sys2Proof.Machine
end
